-- ==== Sys2Proof/Word.lean ====
section
/-! DEFINITION. The two words of GBE-CORE (spec/00_scope.md R7, R11): the byte, which is the addressable unit and the
width of a general register, and the 16-bit word, which is the width of an address, a register pair, SP and PC. -/

namespace Sys2Proof

/-- An 8-bit value: a general register, a memory byte, an 8-bit immediate (R7). -/
abbrev Byte := BitVec 8

/-- A 16-bit value: an address, a register pair, SP, PC (R7). -/
abbrev Word := BitVec 16

end Sys2Proof
end

