-- ==== Sys2Proof/Config.lean ====
section
/-! DEFINITION. The configuration of GBE-CORE: the named parameters of spec/00_scope.md R8, with the defaults the same table
gives them. The parameters that are functions, INIT_MEM, INIT_XRAM and Mix, are given as plain data by their differences from
the default functions of Machine/Memory.lean and Machine/Sound.lean; CART is the field `cart` of the state. -/

namespace Sys2Proof

/-- STOP_MODE of R8: what opcode 0x10 does (R291). -/
inductive StopMode where
  /-- 0x10 raises UnimplementedOpcode, the default (92_eei_decisions.md D9). -/
  | fault
  /-- 0x10 discards its second byte and halts. -/
  | halt
  deriving DecidableEq, Repr

/-- One stereo sample pair (left, right), exact rationals (R536). -/
abbrev SamplePair := Rat × Rat

/-- What Mix is a function of (R8): the outputs of the four channels, the routing mask NR51 and the two ear volumes of NR50. -/
structure MixInput where
  out1 : Nat
  out2 : Nat
  out3 : Nat
  out4 : Nat
  routing : Byte
  volL : BitVec 3
  volR : BitVec 3
  deriving DecidableEq, Repr

/-- One of the four output colours, as an RGBA word (R428). -/
abbrev Colour := BitVec 32

/-- The parameters of R8. A state carries its configuration in its field `cfg`, so that a statement about every state is a
statement about every configuration; no step changes it. -/
structure Config where
  /-- CPU_HZ: cycles per second; it only schedules the samples (R535). -/
  cpuHz : Nat := 4194304
  /-- HALT_IDLE_CYCLES is 4 times one more than this: R8 restricts it to a multiple of 4 from 4 to 24. -/
  haltIdleIndex : Fin 6 := 0
  /-- STOP_MODE. -/
  stopMode : StopMode := .fault
  /-- SAMPLE_RATE: stereo pairs per second. -/
  sampleRate : Nat := 44100
  /-- MASTER_GAIN: the scalar applied to both ears. -/
  masterGain : Rat := 1
  /-- Mix: the arguments at which it differs from its default, R536, with their pairs; an earlier entry stands over a later. -/
  mixPairs : List (MixInput × SamplePair) := []
  /-- SHADE_COLOUR[0..3]; R8 fixes no colours, so the default gives none. -/
  shadeColours : Option (Vector Colour 4) := none
  /-- JOYPAD_IRQ_ON_PRESS: does a press of a released button request interrupt 4 (R337)? -/
  joypadIrqOnPress : Bool := true
  /-- RESET_A to RESET_L, RESET_F (R37). -/
  resetA : Byte := 0x01
  resetF : Byte := 0xB0
  resetB : Byte := 0x00
  resetC : Byte := 0x13
  resetD : Byte := 0x00
  resetE : Byte := 0xD8
  resetH : Byte := 0x01
  resetL : Byte := 0x4D
  /-- RESET_SP and RESET_PC (R37). -/
  resetSp : Word := 0xFFFE
  resetPc : Word := 0x0100
  /-- RESET_IME (R37). -/
  resetIme : Bool := false
  /-- INIT_MEM: the addresses at which it differs from its default, with their bytes; a later entry stands over an earlier. -/
  initMemBytes : List (Nat × Byte) := []
  /-- INIT_XRAM: the offsets at which it differs from its default, with their bytes; a later entry stands over an earlier. -/
  initXramBytes : List (Nat × Byte) := []
  deriving DecidableEq, Repr

/-- Every parameter at the default of R8. -/
def Config.default : Config := {}

/-- HALT_IDLE_CYCLES (R8): one of 4, 8, 12, 16, 20, 24. -/
def Config.haltIdleCycles (c : Config) : Nat := 4 * (c.haltIdleIndex.val + 1)

/-- What R8 and 92_eei_decisions.md D10 ask of a configuration beyond the types of its fields: there are cycles in a second,
and RESET_F has a zero low nibble. -/
abbrev Config.Valid (c : Config) : Prop := 0 < c.cpuHz ∧ c.resetF &&& 0x0F = 0

end Sys2Proof
end

