-- ==== Sys2Proof/Machine/Memory.lean ====
section
/-! DEFINITION. The sparse byte stores of the model: the canonical form, reading and writing one byte, and what an unlisted
address reads as, for the raw byte array (INIT_MEM, R61), the cartridge image and the external RAM (INIT_XRAM, R92). -/

namespace Sys2Proof.Machine

/-- Bytes by address (or by offset): a sparse list in one canonical form, addresses strictly rising and no entry equal to
what an unlisted address reads as. The raw byte array `mem` of R30 and R61 is held so. -/
abbrev Memory := List Host.Cell

/-- The canonical form of a store of `size` bytes whose unlisted address `a` reads `dflt a`: addresses strictly rising, every
address inside the store, no entry equal to what its address would read unlisted. -/
abbrev Cells.Wf (dflt : Nat → Byte) (size : Nat) (m : Memory) : Prop :=
  m.Pairwise (fun p q => p.1 < q.1) ∧ ∀ p ∈ m, p.1 < size ∧ p.2 ≠ dflt p.1

/-- The byte at an address. -/
def Cells.read (dflt : Nat → Byte) : Memory → Nat → Byte
  | [], a => dflt a
  | (b, v) :: rest, a => if b = a then v else Cells.read dflt rest a

/-- List the byte `v` at the address `a`, keeping the addresses rising. -/
def Cells.insert (a : Nat) (v : Byte) : Memory → Memory
  | [] => [(a, v)]
  | (b, w) :: rest =>
    if a < b then (a, v) :: (b, w) :: rest
    else if a = b then (a, v) :: rest
    else (b, w) :: Cells.insert a v rest

/-- Unlist the address `a`. -/
def Cells.erase (a : Nat) (m : Memory) : Memory := m.filter (fun p => p.1 ≠ a)

/-- Store `v` at `a`: a byte equal to what the address reads unlisted is not listed. -/
def Cells.write (dflt : Nat → Byte) (m : Memory) (a : Nat) (v : Byte) : Memory :=
  if v = dflt a then Cells.erase a m else Cells.insert a v m

/-- The default of INIT_MEM (R8): every byte 0x00 except STAT, 0xFF41, which is 0x02. It is what
an unlisted address of the raw byte array reads as. -/
def initMem (a : Nat) : Byte := if a = 0xFF41 then 0x02 else 0x00

/-- The default of INIT_XRAM (R8), and the bytes of a cartridge image that are not listed: 0x00. -/
def initZero (_ : Nat) : Byte := 0x00

/-- The byte `mem[a]` of the raw byte array (R30, R61). -/
def Memory.read (m : Memory) (a : Nat) : Byte := Cells.read initMem m a

/-- `mem[a] <- v`. -/
def Memory.write (m : Memory) (a : Nat) (v : Byte) : Memory := Cells.write initMem m a v

/-- The canonical form of the raw byte array: 65536 addresses (R60). -/
abbrev Memory.wf (m : Memory) : Prop := Cells.Wf initMem 0x10000 m

/-- The canonical store that holds the listed bytes, a later one over an earlier one, and reads unlisted elsewhere. -/
def Cells.ofList (dflt : Nat → Byte) (l : List (Nat × Byte)) : Memory := l.foldl (fun m p => Cells.write dflt m p.1 p.2) []

/-- The raw byte array after reset (R61, R561 step 3): INIT_MEM at every address, given by the bytes in which it differs from
its default, then STAT, LY and DIV at the values reset forces. -/
def Memory.reset (bytes : List (Nat × Byte)) : Memory :=
  (((Cells.ofList initMem (bytes.filter (fun p => p.1 < 0x10000))).write 0xFF41 0x02).write 0xFF44 0x00).write 0xFF04 0x00

/-- The external RAM after reset (R561 step 2): INIT_XRAM, given by the bytes in which it differs from its default. -/
def Memory.resetXram (size : Nat) (bytes : List (Nat × Byte)) : Memory :=
  Cells.ofList initZero (bytes.filter (fun p => p.1 < size))

end Sys2Proof.Machine
end

