-- ==== Sys2Proof/Machine/State.lean ====
section
/-! DEFINITION. Everything GBE-CORE holds (spec/10_state.md): the Processor, the raw byte array, the timer accumulators,
the PixelUnit, the SoundUnit, the joypad latch, the cartridge port, the configuration and the outputs of the last system
iteration; the fault, the refusals, and the state after reset (R561). Plain data only. -/

namespace Sys2Proof.Machine

/-- A shade number 0 to 3 (R428). -/
abbrev Shade := BitVec 2

/-- The 160 by 144 frame of R33 in canonical sparse form: the pixels whose shade is not 0, as (160 * y + x, shade), in
rising order; a pixel that is not listed has shade 0. -/
abbrev Frame := List (Nat × Shade)

/-- The Processor (R20 to R29): eight 8-bit registers, SP, PC, the interrupt-master-enable flag and the halted flag. The
four pairs AF, BC, DE, HL are views of the registers, not storage (R21). -/
structure Processor where
  a : Byte
  f : Byte
  b : Byte
  c : Byte
  d : Byte
  e : Byte
  h : Byte
  l : Byte
  sp : Word
  pc : Word
  ime : Bool
  halted : Bool
  deriving DecidableEq, Repr

/-- The hidden accumulators of the timer engine (R32); its four registers are bytes of `mem`. -/
structure TimerUnit where
  divAcc : Nat
  timaAcc : Nat
  deriving DecidableEq, Repr

/-- The four modes of the PixelUnit (R33, R410). -/
inductive Mode where
  | hblank
  | vblank
  | oamSearch
  | draw
  deriving DecidableEq, Repr

/-- The PixelUnit's own state (R33); the video registers, video RAM and sprite attribute memory are bytes of `mem`. -/
structure PixelUnit where
  mode : Mode
  clock : Nat
  /-- Per line the pair (scroll X, scroll Y) sampled when OAM-search of that line began (R416). -/
  scrollCache : Vector (Byte × Byte) 154
  frame : Frame
  deriving DecidableEq, Repr

/-- What every sound channel has (R463). -/
structure Channel where
  enabled : Bool
  length : Nat
  timer : Nat
  deriving DecidableEq, Repr

/-- The running part of a volume envelope (R465). -/
structure Envelope where
  volume : Nat
  envTimer : Nat
  deriving DecidableEq, Repr

/-- The SoundUnit (R462 to R466). None of it lives in `mem`. -/
structure SoundUnit where
  power : Bool
  /-- The 22 stored register bytes of 0xFF10 to 0xFF25 (R462). -/
  nr : Vector Byte 22
  wave : Vector Byte 16
  fsAcc : Nat
  fsStep : Nat
  sampleAcc : Nat
  ch1 : Channel
  ch2 : Channel
  ch3 : Channel
  ch4 : Channel
  env1 : Envelope
  env2 : Envelope
  env4 : Envelope
  dutyStep1 : Nat
  dutyStep2 : Nat
  shadow : Nat
  sweepTimer : Nat
  sweepEnabled : Bool
  sampleIndex : Nat
  lfsr : BitVec 15
  deriving DecidableEq, Repr

/-- The live button state, eight booleans that only the host changes (R35). -/
structure Buttons where
  right : Bool
  left : Bool
  up : Bool
  down : Bool
  a : Bool
  b : Bool
  select : Bool
  start : Bool
  deriving DecidableEq, Repr

/-- The joypad latch (R35): the two select bits last written to 0xFF00 and the buttons. -/
structure Joypad where
  /-- Bit 0 is bit 4 of the written byte (0 selects the direction group), bit 1 is bit 5 (0 selects the action group). -/
  sel : BitVec 2
  buttons : Buttons
  deriving DecidableEq, Repr

/-- A bank controller with its registers (R36, R96 to R99). The kind is the constructor and never changes after load. -/
inductive BankController where
  /-- No controller (R96). -/
  | flat
  | mbc1 (ramEnable : Bool) (romLow : BitVec 5) (upper : BitVec 2) (mode : Bool)
  | mbc3 (ramEnable : Bool) (romBank : BitVec 7) (sel : BitVec 4)
  | mbc5 (ramEnable : Bool) (romBank : BitVec 9) (ramBank : BitVec 4)
  deriving DecidableEq, Repr

/-- The cartridge port (R36, R90 to R99): the image CART (its length and its bytes by offset, an unlisted offset reading
0x00), the bank controller, and the external RAM. -/
structure Cartridge where
  rom : Memory
  romSize : Nat
  ctl : BankController
  xramSize : Nat
  xram : Memory
  deriving DecidableEq, Repr

/-- What the host observes of one system iteration (R583): the cycle count that `executeStep` returned, the frame if one was
presented, the sample pairs in the order they were emitted. The model's own record; no rule reads it back. -/
structure Output where
  cycles : Nat
  presented : Option Frame
  samples : List SamplePair
  deriving DecidableEq, Repr

/-- The whole machine (10_state.md): one field per component of the tuple, the configuration of R8, and the outputs. -/
structure State where
  cpu : Processor
  mem : Memory
  timer : TimerUnit
  ppu : PixelUnit
  snd : SoundUnit
  joypad : Joypad
  cart : Cartridge
  cfg : Config
  out : Output
  deriving DecidableEq, Repr

/-- The reasons a step can stop with a fault. -/
inductive Fault where
  /-- UnimplementedOpcode(op, addr) of R330, the only exception: raised by the eleven first bytes with no instruction (R295)
  and by STOP when STOP_MODE is fault (R291). It carries the opcode byte, the address it was fetched from, and the state in
  which the run ends (PC past the opcode byte and nothing else changed by the faulting step). Safe: it is the outcome the spec gives. -/
  | unimplementedOpcode (op : Byte) (addr : Word) (final : State)
  deriving DecidableEq, Repr

/-- The reasons there is no meaning or no machine. -/
inductive Refusal where
  /-- The instruction has no meaning in this model yet; raised only by an arm of `exec`. Safe. -/
  | notModelled (mnemonic : String)
  /-- The cartridge image is shorter than 0x014A bytes and is refused at load (R90); raised only by the host move `load`,
  never by a step. Safe: no machine state exists. -/
  | imageTooShort (length : Nat)
  /-- The kind byte at 0x0147 names no supported bank controller and the image is refused at load (R91); raised only by the
  host move `load`. Safe. -/
  | unsupportedKind (kind : Byte)
  /-- The host restores a snapshot that is no reachable state (93_implementation_defined.md A23); raised only by the host
  move `restore`. Safe. -/
  | snapshotRefused
  deriving DecidableEq, Repr

/-- The outcome of an instruction and of a step. -/
abbrev Result := Host.Outcome State Fault Refusal

/-- The Processor after reset (R37): the RESET_ values; `halted` is 0 always. -/
def Processor.reset (c : Config) : Processor where
  a := c.resetA
  f := c.resetF
  b := c.resetB
  c := c.resetC
  d := c.resetD
  e := c.resetE
  h := c.resetH
  l := c.resetL
  sp := c.resetSp
  pc := c.resetPc
  ime := c.resetIme
  halted := false

/-- The PixelUnit after reset (R33): mode 2, clock 0, an empty snapshot, every pixel shade 0. -/
def PixelUnit.reset : PixelUnit where
  mode := .oamSearch
  clock := 0
  scrollCache := Vector.replicate 154 (0, 0)
  frame := []

/-- A channel after reset and after the sound power is switched off (R530, R539). -/
def Channel.reset : Channel := { enabled := false, length := 0, timer := 0 }

/-- An envelope after reset and after the sound power is switched off (R530, R539). -/
def Envelope.reset : Envelope := { volume := 0, envTimer := 0 }

/-- The SoundUnit after reset (R539): everything 0 but the noise register, 0x7FFF. -/
def SoundUnit.reset : SoundUnit where
  power := false
  nr := Vector.replicate 22 0
  wave := Vector.replicate 16 0
  fsAcc := 0
  fsStep := 0
  sampleAcc := 0
  ch1 := Channel.reset
  ch2 := Channel.reset
  ch3 := Channel.reset
  ch4 := Channel.reset
  env1 := Envelope.reset
  env2 := Envelope.reset
  env4 := Envelope.reset
  dutyStep1 := 0
  dutyStep2 := 0
  shadow := 0
  sweepTimer := 0
  sweepEnabled := false
  sampleIndex := 0
  lfsr := 0x7FFF

/-- The joypad after reset (R35): select bits 0, no button pressed. -/
def Joypad.reset : Joypad where
  sel := 0
  buttons := { right := false, left := false, up := false, down := false, a := false, b := false, select := false, start := false }

/-- A flat 32 KiB image of zero bytes with no bank controller and no external RAM: the cartridge of a model of CORE alone
(R5), and of the test vectors of 95_test_vectors.md. It holds no program. -/
def Cartridge.blank : Cartridge where
  rom := []
  romSize := 0x8000
  ctl := .flat
  xramSize := 0
  xram := []

/-- The reset procedure of R561, steps 2 to 8, for a configuration and an accepted cartridge whose bank controller is at its
load values. With the default parameters `mem` and `xram` list nothing. -/
def State.resetWith (c : Config) (cart : Cartridge) : State where
  cpu := Processor.reset c
  mem := Memory.reset c.initMemBytes
  timer := { divAcc := 0, timaAcc := 0 }
  ppu := PixelUnit.reset
  snd := SoundUnit.reset
  joypad := Joypad.reset
  cart := { cart with xram := Memory.resetXram cart.xramSize c.initXramBytes }
  cfg := c
  out := { cycles := 0, presented := none, samples := [] }

/-- The machine right after reset (R561): the default parameters and the blank cartridge. A program is loaded from outside
(the host move `load` of Machine/HostMoves.lean). -/
def State.reset : State := State.resetWith Config.default Cartridge.blank

end Sys2Proof.Machine
end

