-- ==== Sys2Proof/Machine/Cartridge.lean ====
section
/-! DEFINITION. The cartridge port (spec/20_memory.md section 6): the header tables, the two ROM windows, the external RAM
window and the register writes of the three bank controllers (R90 to R99). -/

namespace Sys2Proof.Machine

/-- The kind table of R91: the controller a header byte selects, at its load values (R36); none where the image is refused. -/
def BankController.ofHeader (kind : Byte) : Option BankController :=
  let k := kind.toNat
  if k = 0x00 then some .flat
  else if 0x01 ≤ k ∧ k ≤ 0x03 then some (.mbc1 false 1 0 false)
  else if 0x0F ≤ k ∧ k ≤ 0x13 then some (.mbc3 false 1 0)
  else if 0x19 ≤ k ∧ k ≤ 0x1E then some (.mbc5 false 1 0)
  else none

/-- XRAM_SIZE in bytes from the header byte at 0x0149 (R92). -/
def xramSizeOfHeader (code : Byte) : Nat :=
  match code.toNat with
  | 0x01 => 2048
  | 0x02 => 8192
  | 0x03 => 32768
  | 0x04 => 131072
  | 0x05 => 65536
  | _ => 0

/-- `currentRomBank()` (R96 to R99). -/
def BankController.romBank : BankController → Nat
  | .flat => 1
  | .mbc1 _ romLow upper mode => if mode then romLow.toNat else (upper ++ romLow).toNat
  | .mbc3 _ bank _ => bank.toNat
  | .mbc5 _ bank _ => bank.toNat

/-- What the external RAM window of R95 reaches. -/
inductive RamTarget where
  /-- RAM disabled, or no bank selected: reads give 0xFF, writes are ignored. -/
  | closed
  /-- A real-time-clock register of the second controller kind, stubbed: reads give 0x00, writes are ignored (R98). -/
  | clock
  /-- A bank of external RAM. -/
  | bank (n : Nat)
  deriving DecidableEq, Repr

/-- The target of the external RAM window: `ramEnable` and `currentRamBank()` (R95 to R99). -/
def BankController.ramTarget : BankController → RamTarget
  | .flat => .closed
  | .mbc1 en _ upper mode => if en then .bank (if mode then upper.toNat else 0) else .closed
  | .mbc3 en _ sel =>
    if en then
      if sel.toNat ≤ 0x07 then .bank sel.toNat else if sel.toNat ≤ 0x0C then .clock else .closed
    else .closed
  | .mbc5 en _ bank => if en then .bank bank.toNat else .closed

/-- A bank register in which 0 is replaced by 1 (R97, R98). -/
def zeroToOne {n : Nat} (b : BitVec n) : BitVec n := if b = 0 then 1 else b

/-- RAM is enabled by a byte whose low nibble is 0xA (R97 to R99). -/
def ramEnableOf (v : Byte) : Bool := v &&& 0x0F == 0x0A

/-- A write below 0x8000, which the bank controller intercepts (R96 to R99). -/
def BankController.write (ctl : BankController) (a : Nat) (v : Byte) : BankController :=
  match ctl with
  | .flat => .flat
  | .mbc1 en romLow upper mode =>
    if a < 0x2000 then .mbc1 (ramEnableOf v) romLow upper mode
    else if a < 0x4000 then .mbc1 en (zeroToOne (v.extractLsb' 0 5)) upper mode
    else if a < 0x6000 then .mbc1 en romLow (v.extractLsb' 0 2) mode
    else .mbc1 en romLow upper (v.getLsbD 0)
  | .mbc3 en bank sel =>
    if a < 0x2000 then .mbc3 (ramEnableOf v) bank sel
    else if a < 0x4000 then .mbc3 en (zeroToOne (v.extractLsb' 0 7)) sel
    else if a < 0x6000 then .mbc3 en bank (v.extractLsb' 0 4)
    else .mbc3 en bank sel
  | .mbc5 en bank ramBank =>
    if a < 0x2000 then .mbc5 (ramEnableOf v) bank ramBank
    else if a < 0x3000 then .mbc5 en (bank.extractLsb' 8 1 ++ v) ramBank
    else if a < 0x4000 then .mbc5 en (v.extractLsb' 0 1 ++ bank.extractLsb' 0 8) ramBank
    else if a < 0x6000 then .mbc5 en bank (v.extractLsb' 0 4)
    else .mbc5 en bank ramBank

/-- The image byte at an offset, 0xFF beyond the end of the image (R93, R94). -/
def Cartridge.romByte (c : Cartridge) (off : Nat) : Byte :=
  if off < c.romSize then Cells.read initZero c.rom off else 0xFF

/-- The offset in the image that an address below 0x8000 reads: the fixed window, then the switchable one (R93, R94). -/
def Cartridge.romOffset (c : Cartridge) (a : Nat) : Nat :=
  if a < 0x4000 then a else c.ctl.romBank * 0x4000 + (a - 0x4000)

/-- A read below 0x8000. -/
def Cartridge.readRom (c : Cartridge) (a : Nat) : Byte := c.romByte (c.romOffset a)

/-- The offset in the external RAM of an address in 0xA000 to 0xBFFF (R95). -/
def ramOffset (bank a : Nat) : Nat := bank * 0x2000 + (a - 0xA000)

/-- A read of the external RAM window (R95, R98). -/
def Cartridge.readRam (c : Cartridge) (a : Nat) : Byte :=
  match c.ctl.ramTarget with
  | .closed => 0xFF
  | .clock => 0x00
  | .bank n => if ramOffset n a < c.xramSize then Cells.read initZero c.xram (ramOffset n a) else 0xFF

/-- A write to the external RAM window (R95, R98). -/
def Cartridge.writeRam (c : Cartridge) (a : Nat) (v : Byte) : Cartridge :=
  match c.ctl.ramTarget with
  | .closed => c
  | .clock => c
  | .bank n =>
    if ramOffset n a < c.xramSize then { c with xram := Cells.write initZero c.xram (ramOffset n a) v } else c

/-- A write below 0x8000: the image is unchanged (R63, R96). -/
def Cartridge.writeRom (c : Cartridge) (a : Nat) (v : Byte) : Cartridge := { c with ctl := c.ctl.write a v }

/-- Building the port from an image (R90 to R92, R561 steps 1 and 2): refused if it is too short or its kind unsupported. -/
def Cartridge.ofImage (rom : Memory) (romSize : Nat) : Except Refusal Cartridge :=
  if romSize < 0x014A then .error (.imageTooShort romSize)
  else
    match BankController.ofHeader (Cells.read initZero rom 0x0147) with
    | none => .error (.unsupportedKind (Cells.read initZero rom 0x0147))
    | some ctl =>
      .ok { rom := rom, romSize := romSize, ctl := ctl, xramSize := xramSizeOfHeader (Cells.read initZero rom 0x0149), xram := [] }

end Sys2Proof.Machine
end

