-- ==== Sys2Proof/Machine/Counting.lean ====
section
/-! DEFINITION. The two accumulator loops that the engines share. Each rule writes a while loop that adds or subtracts a fixed
period; the functions here give what the loop ends with: the accumulator it leaves and how often its body ran.
Laws/Counting.lean proves that they satisfy the loops' own equations. -/

namespace Sys2Proof.Machine

/-- The loop "acc <- acc + c; while acc >= period: acc <- acc - period; body" (R386, R480, R535): the accumulator left and the
number of times the body ran. -/
def countUp (period acc c : Nat) : Nat × Nat := ((acc + c) % period, (acc + c) / period)

/-- The loop "timer <- timer - c; while timer <= 0: timer <- timer + period; body" (R500): the timer left and the number of
times the body ran. -/
def countDown (period timer c : Nat) : Nat × Nat :=
  if c < timer then (timer - c, 0) else (period - (c - timer) % period, (c - timer) / period + 1)

end Sys2Proof.Machine
end

