-- ==== Sys2Proof/Machine/Sound.lean ====
section
/-! DEFINITION. The SoundUnit (spec/63_sound_unit.md): its registers (R467 to R479), the frame sequencer (R480 to R484), the
trigger and the DAC (R490, R492), the four generators (R500 to R504), the master switch (R530) and the mixer (R535, R536). -/

namespace Sys2Proof.Machine

/-- The four channels (R460). -/
inductive ChannelId where
  | c1 | c2 | c3 | c4
  deriving DecidableEq, Repr

/-- A stored register byte `nr[a]`, `a` in 0xFF10 to 0xFF25 (R462). -/
def SoundUnit.reg (u : SoundUnit) (a : Nat) : Byte := (u.nr[a - 0xFF10]?).getD 0

/-- `nr[a] <- v`. -/
def SoundUnit.setReg (u : SoundUnit) (a : Nat) (v : Byte) : SoundUnit := { u with nr := u.nr.setIfInBounds (a - 0xFF10) v }

/-- The state of a channel (R463). -/
def SoundUnit.channel (u : SoundUnit) : ChannelId → Channel
  | .c1 => u.ch1
  | .c2 => u.ch2
  | .c3 => u.ch3
  | .c4 => u.ch4

/-- Replace the state of a channel. -/
def SoundUnit.setChannel (u : SoundUnit) (x : ChannelId) (c : Channel) : SoundUnit :=
  match x with
  | .c1 => { u with ch1 := c }
  | .c2 => { u with ch2 := c }
  | .c3 => { u with ch3 := c }
  | .c4 => { u with ch4 := c }

/-- `enabled[x] <- b`. -/
def SoundUnit.setEnabled (u : SoundUnit) (x : ChannelId) (b : Bool) : SoundUnit :=
  u.setChannel x { u.channel x with enabled := b }

/-- `length[x] <- n`. -/
def SoundUnit.setLength (u : SoundUnit) (x : ChannelId) (n : Nat) : SoundUnit :=
  u.setChannel x { u.channel x with length := n }

/-- The control register of a channel: NR14, NR24, NR34, NR44 (R463). -/
def ChannelId.control : ChannelId → Nat
  | .c1 => 0xFF14
  | .c2 => 0xFF19
  | .c3 => 0xFF1E
  | .c4 => 0xFF23

/-- The envelope register of a channel, NR12, NR22, NR42 (R474); channel 3 has none. -/
def ChannelId.envelope : ChannelId → Option Nat
  | .c1 => some 0xFF12
  | .c2 => some 0xFF17
  | .c3 => none
  | .c4 => some 0xFF21

/-- The full length of a channel: 64, or 256 for channel 3 (R463, R490). -/
def ChannelId.fullLength : ChannelId → Nat
  | .c3 => 256
  | _ => 64

/-- The 11-bit frequency held in a low register and bits 2 to 0 of the one after it (R473, R475, R476). -/
def SoundUnit.freq (u : SoundUnit) (low : Nat) : Nat := ((u.reg (low + 1)).extractLsb' 0 3 ++ u.reg low).toNat

/-- The DAC of a channel is on (R474, R492). -/
def SoundUnit.dacOn (u : SoundUnit) (x : ChannelId) : Bool :=
  match x.envelope with
  | some r => u.reg r &&& 0xF8 != 0
  | none => (u.reg 0xFF1A).getLsbD 7

/-- The divisor table of R504. -/
def noiseDivisor (d : BitVec 3) : Nat := if d = 0 then 8 else 16 * d.toNat

/-- `period(x)` (R501, R503, R504). -/
def SoundUnit.period (u : SoundUnit) : ChannelId → Nat
  | .c1 => (2048 - u.freq 0xFF13) * 4
  | .c2 => (2048 - u.freq 0xFF18) * 4
  | .c3 => (2048 - u.freq 0xFF1D) * 2
  | .c4 => noiseDivisor ((u.reg 0xFF22).extractLsb' 0 3) <<< ((u.reg 0xFF22).extractLsb' 4 4).toNat

/-- One shift of the noise register; `narrow` is the width bit of NR43 (R504). -/
def lfsrNext (narrow : Bool) (r : BitVec 15) : BitVec 15 :=
  let b := r.getLsbD 0 ^^ r.getLsbD 1
  let w := (BitVec.ofBool b) ++ r.extractLsb' 1 14
  if narrow then (w &&& 0x7FBF) ||| ((BitVec.ofBool b).setWidth 15 <<< 6) else w

/-- `advance(x)` (R501, R503, R504). -/
def SoundUnit.advance (u : SoundUnit) : ChannelId → SoundUnit
  | .c1 => { u with dutyStep1 := (u.dutyStep1 + 1) % 8 }
  | .c2 => { u with dutyStep2 := (u.dutyStep2 + 1) % 8 }
  | .c3 => { u with sampleIndex := (u.sampleIndex + 1) % 32 }
  | .c4 => { u with lfsr := lfsrNext ((u.reg 0xFF22).getLsbD 3) u.lfsr }

/-- `clockTimer(x, c)` (R500): the timer counts down `c` cycles; each time it has reached 0 or less the period is added and
the waveform advances. -/
def SoundUnit.clockTimer (u : SoundUnit) (x : ChannelId) (c : Nat) : SoundUnit :=
  let r := countDown (u.period x) (u.channel x).timer c
  let v := u.setChannel x { u.channel x with timer := r.1 }
  (fun w => w.advance x)^[r.2] v

/-- The frequency that `sweepCalc()` computes from the shadow frequency and the fields of NR10 (R484). -/
def SoundUnit.sweepFreq (u : SoundUnit) : Nat :=
  let nr10 := u.reg 0xFF10
  let delta := u.shadow >>> (nr10.extractLsb' 0 3).toNat
  if nr10.getLsbD 3 then u.shadow - delta else u.shadow + delta

/-- The effect of `sweepCalc()`: a frequency above 2047 disables channel 1 (R484). -/
def SoundUnit.sweepCheck (u : SoundUnit) : SoundUnit := if 2047 < u.sweepFreq then u.setEnabled .c1 false else u

/-- The sweep period field, 0 counting as 8 (R483, R490). -/
def SoundUnit.sweepReload (u : SoundUnit) : Nat :=
  let sp := ((u.reg 0xFF10).extractLsb' 4 3).toNat
  if sp = 0 then 8 else sp

/-- The commit of a sweep: the frequency becomes the shadow and goes to the frequency registers (R483). -/
def SoundUnit.sweepCommit (u : SoundUnit) (f : Nat) : SoundUnit :=
  let nr14 := u.reg 0xFF14
  (({ u with shadow := f }.setReg 0xFF13 (BitVec.ofNat 8 f)).setReg 0xFF14 ((nr14 &&& 0xF8) ||| BitVec.ofNat 8 (f >>> 8)))

/-- `clockSweep()` (R483). -/
def SoundUnit.clockSweep (u : SoundUnit) : SoundUnit :=
  let t := u.sweepTimer - 1
  let u := { u with sweepTimer := t }
  if t = 0 then
    let u := { u with sweepTimer := u.sweepReload }
    if u.sweepEnabled && (u.reg 0xFF10).extractLsb' 4 3 != 0 then
      let f := u.sweepFreq
      let u := u.sweepCheck
      if f ≤ 2047 ∧ (u.reg 0xFF10).extractLsb' 0 3 ≠ 0 then (u.sweepCommit f).sweepCheck else u
    else u
  else u

/-- The length clock of one channel (R481). -/
def SoundUnit.clockLengthOf (u : SoundUnit) (x : ChannelId) : SoundUnit :=
  let c := u.channel x
  if (u.reg x.control).getLsbD 6 ∧ 0 < c.length then
    u.setChannel x { c with length := c.length - 1, enabled := c.enabled && c.length - 1 != 0 }
  else u

/-- `clockLength()` (R481). -/
def SoundUnit.clockLength (u : SoundUnit) : SoundUnit :=
  (((u.clockLengthOf .c1).clockLengthOf .c2).clockLengthOf .c3).clockLengthOf .c4

/-- The envelope clock of one channel, given its envelope register (R482). -/
def Envelope.clock (e : Envelope) (r : Byte) : Envelope :=
  let ep := (r.extractLsb' 0 3).toNat
  if ep = 0 then e
  else
    let t := e.envTimer - 1
    if t = 0 then
      { envTimer := ep
        volume := if r.getLsbD 3 then (if e.volume < 15 then e.volume + 1 else e.volume) else e.volume - 1 }
    else { e with envTimer := t }

/-- `clockEnvelope()` (R482). -/
def SoundUnit.clockEnvelope (u : SoundUnit) : SoundUnit :=
  { u with
    env1 := u.env1.clock (u.reg 0xFF12)
    env2 := u.env2.clock (u.reg 0xFF17)
    env4 := u.env4.clock (u.reg 0xFF21) }

/-- One step of the frame sequencer, the body of the loop of R480: the step acted on is the one before the increment. -/
def SoundUnit.sequencerTick (u : SoundUnit) : SoundUnit :=
  let k := u.fsStep
  let u := if k % 2 = 0 then u.clockLength else u
  let u := if k = 2 ∨ k = 6 then u.clockSweep else u
  let u := if k = 7 then u.clockEnvelope else u
  { u with fsStep := (k + 1) % 8 }

/-- `advanceFrameSequencer(c)` (R480). -/
def SoundUnit.advanceFrameSequencer (u : SoundUnit) (c : Nat) : SoundUnit :=
  let r := countUp 8192 u.fsAcc c
  SoundUnit.sequencerTick^[r.2] { u with fsAcc := r.1 }

/-- The volume and the envelope timer a trigger sets from the envelope register (R474, R490). -/
def Envelope.start (r : Byte) : Envelope :=
  { volume := (r.extractLsb' 4 4).toNat, envTimer := (r.extractLsb' 0 3).toNat }

/-- What a trigger does to one channel alone (R490): envelope, sweep, wave position, noise register. -/
def SoundUnit.triggerUnit (u : SoundUnit) : ChannelId → SoundUnit
  | .c1 =>
    let nr10 := u.reg 0xFF10
    let u :=
      { u with
        env1 := Envelope.start (u.reg 0xFF12)
        shadow := u.freq 0xFF13
        sweepTimer := u.sweepReload
        sweepEnabled := nr10.extractLsb' 4 3 != 0 || nr10.extractLsb' 0 3 != 0 }
    if nr10.extractLsb' 0 3 ≠ 0 then u.sweepCheck else u
  | .c2 => { u with env2 := Envelope.start (u.reg 0xFF17) }
  | .c3 => { u with sampleIndex := 0 }
  | .c4 => { u with env4 := Envelope.start (u.reg 0xFF21), lfsr := 0x7FFF }

/-- `trigger(x)` (R490). -/
def SoundUnit.trigger (u : SoundUnit) (x : ChannelId) : SoundUnit :=
  let len := (u.channel x).length
  let u := u.setChannel x { enabled := true, length := if len = 0 then x.fullLength else len, timer := u.period x }
  let u := u.triggerUnit x
  if u.dacOn x then u else u.setEnabled x false

/-- A write that turns the DAC of a channel off disables it at once (R492). -/
def SoundUnit.dacWrite (u : SoundUnit) (x : ChannelId) : SoundUnit := if u.dacOn x then u else u.setEnabled x false

/-- The write effect of register `a` with the byte `v` already stored (R473 to R478). -/
def SoundUnit.writeEffect (u : SoundUnit) (a : Nat) (v : Byte) : SoundUnit :=
  let load64 := 64 - (v.extractLsb' 0 6).toNat
  let trig (x : ChannelId) := if v.getLsbD 7 then u.trigger x else u
  if a = 0xFF11 then u.setLength .c1 load64
  else if a = 0xFF16 then u.setLength .c2 load64
  else if a = 0xFF1B then u.setLength .c3 (256 - v.toNat)
  else if a = 0xFF20 then u.setLength .c4 load64
  else if a = 0xFF12 then u.dacWrite .c1
  else if a = 0xFF17 then u.dacWrite .c2
  else if a = 0xFF1A then u.dacWrite .c3
  else if a = 0xFF21 then u.dacWrite .c4
  else if a = 0xFF14 then trig .c1
  else if a = 0xFF19 then trig .c2
  else if a = 0xFF1E then trig .c3
  else if a = 0xFF23 then trig .c4
  else u

/-- The SoundUnit after the master switch goes off (R530): registers, channels, envelopes and generators at 0, the noise
register at 0x7FFF; the wave table and the accumulators are kept. -/
def SoundUnit.powerOff (u : SoundUnit) : SoundUnit :=
  { SoundUnit.reset with wave := u.wave, fsAcc := u.fsAcc, fsStep := u.fsStep, sampleAcc := u.sampleAcc }

/-- `writeNR52(v)` (R530): only bit 7 counts (R479). -/
def SoundUnit.writeNR52 (u : SoundUnit) (v : Byte) : SoundUnit :=
  if v.getLsbD 7 then
    if u.power then u else { u with power := true, fsStep := 0, fsAcc := 0 }
  else if u.power then u.powerOff
  else u

/-- `SoundUnit.write(a, v)`, `a` in 0xFF10 to 0xFF3F (R467). -/
def SoundUnit.write (u : SoundUnit) (a : Nat) (v : Byte) : SoundUnit :=
  if 0xFF30 ≤ a then { u with wave := u.wave.setIfInBounds (a - 0xFF30) v }
  else if a = 0xFF26 then u.writeNR52 v
  else if 0xFF27 ≤ a then u
  else if u.power then (u.setReg a v).writeEffect a v
  else u

/-- The read masks of R468 for 0xFF10 to 0xFF25, in order. -/
def readMasks : Vector Byte 22 :=
  #v[0x80, 0x3F, 0x00, 0xFF, 0xBF, 0xFF, 0x3F, 0x00, 0xFF, 0xBF, 0x7F, 0xFF, 0x9F, 0xFF, 0xBF, 0xFF, 0xFF, 0x00, 0x00, 0xBF,
    0x00, 0x00]

/-- `MASK[a]` (R468). -/
def readMask (a : Nat) : Byte := (readMasks[a - 0xFF10]?).getD 0xFF

/-- NR52 as read: bit 7 the power, bits 6 to 4 ones, bits 3 to 0 the channels' enabled flags (R468, R479). -/
def SoundUnit.readNR52 (u : SoundUnit) : Byte :=
  BitVec.ofBool u.power ++ 0b111#3 ++ BitVec.ofBool u.ch4.enabled ++ BitVec.ofBool u.ch3.enabled ++ BitVec.ofBool u.ch2.enabled
    ++ BitVec.ofBool u.ch1.enabled

/-- `SoundUnit.read(a)`, `a` in 0xFF10 to 0xFF3F (R468). -/
def SoundUnit.read (u : SoundUnit) (a : Nat) : Byte :=
  if 0xFF30 ≤ a then (u.wave[a - 0xFF30]?).getD 0
  else if a = 0xFF26 then u.readNR52
  else if 0xFF27 ≤ a then 0xFF
  else u.reg a ||| readMask a

/-- The duty patterns of R502, step 0 first. -/
def dutyPattern (duty : BitVec 2) : List Nat :=
  match duty.toNat with
  | 0 => [0, 0, 0, 0, 0, 0, 0, 1]
  | 1 => [1, 0, 0, 0, 0, 0, 0, 1]
  | 2 => [1, 0, 0, 0, 0, 1, 1, 1]
  | _ => [0, 1, 1, 1, 1, 1, 1, 0]

/-- The shifts LEVELSHIFT of R503: mute, full, half, quarter. -/
def levelShift (level : BitVec 2) : Nat :=
  match level.toNat with
  | 0 => 4
  | 1 => 0
  | 2 => 1
  | _ => 2

/-- The current 4-bit sample of the wave table (R471, R503). -/
def SoundUnit.waveSample (u : SoundUnit) : Nat :=
  let b := (u.wave[u.sampleIndex / 2]?).getD 0
  if u.sampleIndex % 2 = 0 then (b.extractLsb' 4 4).toNat else (b.extractLsb' 0 4).toNat

/-- The output of a generator that is enabled with its DAC on (R502 to R504). -/
def SoundUnit.generator (u : SoundUnit) : ChannelId → Nat
  | .c1 => (dutyPattern ((u.reg 0xFF11).extractLsb' 6 2)).getD u.dutyStep1 0 * u.env1.volume
  | .c2 => (dutyPattern ((u.reg 0xFF16).extractLsb' 6 2)).getD u.dutyStep2 0 * u.env2.volume
  | .c3 => u.waveSample >>> levelShift ((u.reg 0xFF1C).extractLsb' 5 2)
  | .c4 => (1 - (u.lfsr.getLsbD 0).toNat) * u.env4.volume

/-- `out[x]`, 0 to 15 (R502 to R504). -/
def SoundUnit.outOf (u : SoundUnit) (x : ChannelId) : Nat :=
  if (u.channel x).enabled ∧ u.dacOn x then u.generator x else 0

/-- What the mixer reads of the unit: the four outputs, NR51 and the volume fields of NR50 (R478). -/
def SoundUnit.mixInput (u : SoundUnit) : MixInput where
  out1 := u.outOf .c1
  out2 := u.outOf .c2
  out3 := u.outOf .c3
  out4 := u.outOf .c4
  routing := u.reg 0xFF25
  volL := (u.reg 0xFF24).extractLsb' 4 3
  volR := (u.reg 0xFF24).extractLsb' 0 3

/-- The sum of the normalised outputs of the channels routed to an ear (R536); the routing bit of channel 1 is bit 0 of NR51 for
the right ear and bit 4 for the left one, and those of channels 2 to 4 follow it (R478). -/
def earSum (i : MixInput) (bit : Nat) : Rat :=
  let part (k out : Nat) : Rat := if i.routing.getLsbD (bit + k) then (out : Rat) / 15 else 0
  part 0 i.out1 + part 1 i.out2 + part 2 i.out3 + part 3 i.out4

/-- The volume law of an ear (R536). -/
def earVolume (v : BitVec 3) : Rat := ((v.toNat + 1 : Nat) : Rat) / 8

/-- The default of Mix with the power on (R536). -/
def defaultMix (gain : Rat) (i : MixInput) : SamplePair :=
  (gain * (earSum i 4 / 4) * earVolume i.volL, gain * (earSum i 0 / 4) * earVolume i.volR)

/-- The parameter Mix (R8): its default but where the configuration gives another pair. -/
def mixOf (cfg : Config) (i : MixInput) : SamplePair :=
  match cfg.mixPairs.find? (fun p => p.1 == i) with
  | some p => p.2
  | none => defaultMix cfg.masterGain i

/-- `Mix()` on the unit (R536); with the power off the mixer emits (0, 0), whatever the parameter is (R530). -/
def SoundUnit.mix (u : SoundUnit) (cfg : Config) : SamplePair := if u.power then mixOf cfg u.mixInput else (0, 0)

/-- `generateSamples(c)` (R535): the unit with its sample clock advanced, and the pairs emitted. -/
def SoundUnit.generateSamples (u : SoundUnit) (cfg : Config) (c : Nat) : SoundUnit × List SamplePair :=
  let r := countUp cfg.cpuHz u.sampleAcc (c * cfg.sampleRate)
  ({ u with sampleAcc := r.1 }, List.replicate r.2 (u.mix cfg))

/-- The part of `SoundUnit.step(c)` that runs only with the power on (R461): the frame sequencer, then the four timers. -/
def SoundUnit.clockAll (u : SoundUnit) (c : Nat) : SoundUnit :=
  ((((u.advanceFrameSequencer c).clockTimer .c1 c).clockTimer .c2 c).clockTimer .c3 c).clockTimer .c4 c

/-- `SoundUnit.step(c)` (R461). -/
def SoundUnit.step (u : SoundUnit) (cfg : Config) (c : Nat) : SoundUnit × List SamplePair :=
  (if u.power then u.clockAll c else u).generateSamples cfg c

end Sys2Proof.Machine
end

