-- ==== Sys2Proof/Machine/Bus.lean ====
section
/-! DEFINITION. The address-space router (spec/20_memory.md): reading and writing one byte (R62, R63), the joypad register
(R80), the DMA copy (R84), and the interrupt request (R334). -/

namespace Sys2Proof.Machine

/-- The low nibble of the joypad register for a group: a pressed button of a selected group reads 0 (R80). -/
def joypadGroup (selected b0 b1 b2 b3 : Bool) : BitVec 4 :=
  BitVec.ofBool (!(selected && b3)) ++ BitVec.ofBool (!(selected && b2)) ++ BitVec.ofBool (!(selected && b1))
    ++ BitVec.ofBool (!(selected && b0))

/-- A read of 0xFF00 (R80). -/
def Joypad.read (j : Joypad) : Byte :=
  let k := j.buttons
  0b11#2 ++ j.sel
    ++ (joypadGroup (!j.sel.getLsbD 0) k.right k.left k.up k.down &&& joypadGroup (!j.sel.getLsbD 1) k.a k.b k.select k.start)

/-- `mem[a] <- v`. -/
def State.setMem (s : State) (a : Nat) (v : Byte) : State := { s with mem := s.mem.write a v }

/-- `MemRead(addr, 1)`: the first matching row of the table of R62. -/
def memRead (s : State) (addr : Word) : Byte :=
  let a := addr.toNat
  if a < 0x8000 then s.cart.readRom a
  else if a < 0xA000 then s.mem.read a
  else if a < 0xC000 then s.cart.readRam a
  else if a < 0xE000 then s.mem.read a
  else if a < 0xFE00 then s.mem.read (a - 0x2000)
  else if a < 0xFEA0 then s.mem.read a
  else if a < 0xFF00 then 0xFF
  else if a = 0xFF00 then s.joypad.read
  else if 0xFF10 ≤ a ∧ a ≤ 0xFF3F then s.snd.read a
  else s.mem.read a

/-- The copy that a write of `v` to 0xFF46 makes: 160 bytes from `v << 8` through the bus into sprite attribute memory, in
ascending order (R84). -/
def dmaCopy (s : State) (v : Byte) : State :=
  (List.range 160).foldl (fun t i => t.setMem (0xFE00 + i) (memRead t ((v ++ 0#8) + BitVec.ofNat 16 i))) s

/-- A program write to STAT keeps bits 2 to 0 (R402). -/
def statWrite (old v : Byte) : Byte := (v &&& 0xF8) ||| (old &&& 0x07)

/-- `MemWrite(addr, 1, v)`: the first matching row of the table of R63. -/
def memWrite (s : State) (addr : Word) (v : Byte) : State :=
  let a := addr.toNat
  if a < 0x8000 then { s with cart := s.cart.writeRom a v }
  else if a < 0xA000 then s.setMem a v
  else if a < 0xC000 then { s with cart := s.cart.writeRam a v }
  else if a < 0xE000 then s.setMem a v
  else if a < 0xFE00 then s.setMem (a - 0x2000) v
  else if a < 0xFEA0 then s.setMem a v
  else if a < 0xFF00 then s
  else if a = 0xFF00 then { s with joypad := { s.joypad with sel := v.extractLsb' 4 2 } }
  else if a = 0xFF04 then { s.setMem 0xFF04 0 with timer := { s.timer with divAcc := 0 } }
  else if 0xFF10 ≤ a ∧ a ≤ 0xFF3F then { s with snd := s.snd.write a v }
  else if a = 0xFF41 then s.setMem a (statWrite (s.mem.read a) v)
  else if a = 0xFF44 then s
  else if a = 0xFF46 then dmaCopy (s.setMem a v) v
  else s.setMem a v

/-- `MemRead(addr, 2)`: the low byte at `addr`, the high byte at `addr + 1` (R65, R66). -/
def memRead16 (s : State) (addr : Word) : Word := memRead s (addr + 1) ++ memRead s addr

/-- `MemWrite(addr, 2, w)`: the low byte first (R66). -/
def memWrite16 (s : State) (addr w : Word) : State :=
  memWrite (memWrite s addr (w.extractLsb' 0 8)) (addr + 1) (w.extractLsb' 8 8)

/-- `requestInterrupt(b)` (R334). -/
def requestInterrupt (s : State) (b : Fin 5) : State := s.setMem 0xFF0F (s.mem.read 0xFF0F ||| (1#8 <<< b.val))

end Sys2Proof.Machine
end

