-- ==== Sys2Proof/Machine/Pixel.lean ====
section
/-! DEFINITION. The PixelUnit (spec/62_pixel_unit.md): the mode state machine (R410 to R418) and the compositor (R420 to R428). -/

namespace Sys2Proof.Machine

/-- The mode number that STAT shows (R33, R402). -/
def Mode.number : Mode → BitVec 2
  | .hblank => 0
  | .vblank => 1
  | .oamSearch => 2
  | .draw => 3

/-- The cycles a mode lasts; in V-blank, one line (R410). -/
def Mode.budget : Mode → Nat
  | .hblank => 204
  | .vblank => 456
  | .oamSearch => 80
  | .draw => 172

/-- `STAT[1:0] <- m`. -/
def setStatMode (s : State) (m : Mode) : State :=
  s.setMem 0xFF41 ((s.mem.read 0xFF41).extractLsb' 2 6 ++ m.number)

/-- `enterMode(m)` (R411): draw has no interrupt enable. -/
def enterMode (m : Mode) (s : State) : State :=
  let s := setStatMode { s with ppu := { s.ppu with mode := m } } m
  let stat := s.mem.read 0xFF41
  let fires :=
    match m with
    | .hblank => stat.getLsbD 3
    | .vblank => stat.getLsbD 4
    | .oamSearch => stat.getLsbD 5
    | .draw => false
  if fires then requestInterrupt s 1 else s

/-- `compareLine()` (R415). -/
def compareLine (s : State) : State :=
  let stat := s.mem.read 0xFF41
  if s.mem.read 0xFF44 = s.mem.read 0xFF45 then
    let s := s.setMem 0xFF41 (stat ||| 0x04)
    if stat.getLsbD 6 then requestInterrupt s 1 else s
  else s.setMem 0xFF41 (stat &&& ~~~0x04#8)

/-- `snapshot(n)`: the live scroll registers as (scroll X, scroll Y) (R416). -/
def snapshot (n : Nat) (s : State) : State :=
  { s with ppu := { s.ppu with scrollCache := s.ppu.scrollCache.setIfInBounds n (s.mem.read 0xFF43, s.mem.read 0xFF42) } }

/-- `index(tileAddr, r, k)`: the colour index of column `k` in row `r` of a tile, from its two bit-planes (R423). -/
def tileIndex (m : Memory) (tileAddr r k : Nat) : BitVec 2 :=
  BitVec.ofBool ((m.read (tileAddr + 2 * r + 1)).getLsbD (7 - k)) ++ BitVec.ofBool ((m.read (tileAddr + 2 * r)).getLsbD (7 - k))

/-- The shade that a palette register gives a colour index (R406). -/
def paletteShade (pal : Byte) (idx : BitVec 2) : Shade := (pal >>> (2 * idx.toNat)).extractLsb' 0 2

/-- The base of a tile map (R401). -/
def tileMapBase (high : Bool) : Nat := if high then 0x9C00 else 0x9800

/-- The window covers the pixel (R421). -/
def useWindow (m : Memory) (x y : Nat) : Bool :=
  (m.read 0xFF40).getLsbD 5 && decide ((m.read 0xFF4A).toNat ≤ y) && decide ((m.read 0xFF4B).toNat ≤ x + 7)

/-- The tile-map base and the position in the map of a screen pixel: (mapBase, px, py) (R421). -/
def mapPosition (m : Memory) (cache : Vector (Byte × Byte) 154) (x y : Nat) : Nat × Nat × Nat :=
  if useWindow m x y then
    (tileMapBase ((m.read 0xFF40).getLsbD 6), x + 7 - (m.read 0xFF4B).toNat, y - (m.read 0xFF4A).toNat)
  else
    let scroll := (cache[y]?).getD (0, 0)
    (tileMapBase ((m.read 0xFF40).getLsbD 3), (x + scroll.1.toNat) % 256, (y + scroll.2.toNat) % 256)

/-- The address of a background tile's data: unsigned from 0x8000 or signed from 0x9000 (R422). -/
def tileDataAddr (unsigned : Bool) (tileNo : Byte) : Nat :=
  if unsigned then 0x8000 + tileNo.toNat * 16 else ((0x9000 : Int) + tileNo.toInt * 16).toNat

/-- `bgIdx` of a screen pixel (R421 to R424). -/
def bgIndex (m : Memory) (cache : Vector (Byte × Byte) 154) (x y : Nat) : BitVec 2 :=
  if (m.read 0xFF40).getLsbD 0 then
    match mapPosition m cache x y with
    | (base, px, py) =>
      let tileNo := m.read (base + py / 8 * 32 + px / 8)
      tileIndex m (tileDataAddr ((m.read 0xFF40).getLsbD 4) tileNo) (py % 8) (px % 8)
  else 0

/-- The height of a sprite (R401, R426). -/
def spriteHeight (m : Memory) : Nat := if (m.read 0xFF40).getLsbD 2 then 16 else 8

/-- The colour index that sprite entry `i` has at a screen pixel; none outside its bounding box (R425, R426). The entry's Y and
X are 16 and 8 more than its top line and left column, so the comparisons are made on sums. -/
def spriteIndex (m : Memory) (x y i : Nat) : Option (BitVec 2) :=
  let e := 0xFE00 + 4 * i
  let oy := (m.read e).toNat
  let ox := (m.read (e + 1)).toNat
  let t := m.read (e + 2)
  let attr := m.read (e + 3)
  let h := spriteHeight m
  if y + 16 < oy ∨ oy + h ≤ y + 16 then none
  else if x + 8 < ox ∨ ox + 8 ≤ x + 8 then none
  else
    let r := y + 16 - oy
    let k := x + 8 - ox
    let r := if attr.getLsbD 6 then h - 1 - r else r
    let k := if attr.getLsbD 5 then 7 - k else k
    let t := if h = 16 then t &&& 0xFE else t
    some (tileIndex m (0x8000 + t.toNat * 16) r k)

/-- The sprite scan over the entries of a list in order (R426): an entry outside its box or transparent is passed over; the
first opaque one ends the scan, and it shows unless it has background priority over a non-zero background. -/
def spriteScan (m : Memory) (bgIdx : BitVec 2) (x y : Nat) : List Nat → Option Shade
  | [] => none
  | i :: rest =>
    match spriteIndex m x y i with
    | none => spriteScan m bgIdx x y rest
    | some idx =>
      let attr := m.read (0xFE00 + 4 * i + 3)
      if idx = 0 then spriteScan m bgIdx x y rest
      else if attr.getLsbD 7 ∧ bgIdx ≠ 0 then none
      else some (paletteShade (if attr.getLsbD 4 then m.read 0xFF49 else m.read 0xFF48) idx)

/-- `spriteShade` of a screen pixel: the 40 entries in table order, if sprites are enabled (R426). -/
def spriteShade (m : Memory) (bgIdx : BitVec 2) (x y : Nat) : Option Shade :=
  if (m.read 0xFF40).getLsbD 1 then spriteScan m bgIdx x y (List.range 40) else none

/-- `pixel(x, y)` (R427). -/
def pixel (m : Memory) (cache : Vector (Byte × Byte) 154) (x y : Nat) : Shade :=
  let bg := bgIndex m cache x y
  (spriteShade m bg x y).getD (paletteShade (m.read 0xFF47) bg)

/-- The shade of a pixel of a frame. -/
def Frame.shade (f : Frame) (x y : Nat) : Shade := ((f.find? (fun p => p.1 == 160 * y + x)).map (·.2)).getD 0

/-- The canonical form of a frame: positions rising, inside the screen, no entry of shade 0. -/
abbrev Frame.wf (f : Frame) : Prop := f.Pairwise (fun p q => p.1 < q.1) ∧ ∀ p ∈ f, p.1 < 160 * 144 ∧ p.2 ≠ 0

/-- `renderFrame()` (R420): every pixel of the 160 by 144 frame by itself. -/
def renderFrame (m : Memory) (cache : Vector (Byte × Byte) 154) : Frame :=
  (List.range (160 * 144)).filterMap (fun i =>
    let p := pixel m cache (i % 160) (i / 160)
    if p = 0 then none else some (i, p))

/-- `renderFrame(); present(frame)` (R413, R428). -/
def renderAndPresent (s : State) : State :=
  let f := renderFrame s.mem s.ppu.scrollCache
  { s with ppu := { s.ppu with frame := f }, out := { s.out with presented := some f } }

/-- `clock <- n`. -/
def setClock (n : Nat) (s : State) : State := { s with ppu := { s.ppu with clock := n } }

/-- `LY <- n`. -/
def setLine (n : Byte) (s : State) : State := s.setMem 0xFF44 n

/-- The LCD is off (R418): mode 0, clock 0, LY 0, STAT[1:0] = 0, and nothing else. -/
def lcdOff (s : State) : State :=
  setStatMode (setLine 0 (setClock 0 { s with ppu := { s.ppu with mode := .hblank } })) .hblank

/-- What happens when the budget of the current mode has run out and has been taken from the clock (R410). -/
def modeEnd (s : State) : State :=
  match s.ppu.mode with
  | .oamSearch => enterMode .draw s
  | .draw => enterMode .hblank s
  | .hblank =>
    let ly := s.mem.read 0xFF44 + 1
    let s := compareLine (setLine ly s)
    if ly = 144 then renderAndPresent (requestInterrupt (enterMode .vblank s) 0)
    else enterMode .oamSearch (snapshot ly.toNat s)
  | .vblank =>
    let ly := s.mem.read 0xFF44 + 1
    if ly = 154 then enterMode .oamSearch (snapshot 0 (compareLine (setLine 0 s)))
    else compareLine (setLine ly s)

/-- `PixelUnit.step(c)` (R410). Nothing is presented unless this step presents it. -/
def pixelStep (c : Nat) (s : State) : State :=
  let s := { s with out := { s.out with presented := none } }
  if (s.mem.read 0xFF40).getLsbD 7 then
    let clock := s.ppu.clock + c
    if clock < s.ppu.mode.budget then setClock clock s else modeEnd (setClock (clock - s.ppu.mode.budget) s)
  else lcdOff s

end Sys2Proof.Machine
end

