-- ==== Sys2Proof/Machine/Timer.lean ====
section
/-! DEFINITION. The timer-advance engine (spec/61_timer.md R386, R387). -/

namespace Sys2Proof.Machine

/-- The period that TAC bits 1 and 0 select (R385). -/
def timerPeriod (tac : Byte) : Nat :=
  match (tac.extractLsb' 0 2).toNat with
  | 0 => 1024
  | 1 => 16
  | 2 => 64
  | _ => 256

/-- One increment of TIMA; at 0xFF it is reloaded from TMA and interrupt 2 is requested (R386, R387). -/
def timaTick (s : State) : State :=
  if s.mem.read 0xFF05 = 0xFF then requestInterrupt (s.setMem 0xFF05 (s.mem.read 0xFF06)) 2
  else s.setMem 0xFF05 (s.mem.read 0xFF05 + 1)

/-- The DIV part of `advanceTimers(c)`: one increment for every 256 accumulated cycles (R386). -/
def advanceDiv (s : State) (c : Nat) : State :=
  let r := countUp 256 s.timer.divAcc c
  (fun t => t.setMem 0xFF04 (t.mem.read 0xFF04 + 1))^[r.2] { s with timer := { s.timer with divAcc := r.1 } }

/-- The TIMA part of `advanceTimers(c)`, with TAC as it is now (R386). -/
def advanceTima (s : State) (c : Nat) : State :=
  let tac := s.mem.read 0xFF07
  if tac.getLsbD 2 then
    let r := countUp (timerPeriod tac) s.timer.timaAcc c
    timaTick^[r.2] { s with timer := { s.timer with timaAcc := r.1 } }
  else s

/-- `advanceTimers(c)` (R386). -/
def advanceTimers (c : Nat) (s : State) : State := advanceTima (advanceDiv s c) c

end Sys2Proof.Machine
end

