-- ==== Sys2Proof/Machine/Engines.lean ====
section
/-! DEFINITION. The three engines that advance after every `executeStep`, in the order of spec/70_reset_and_hazards.md R570. -/

namespace Sys2Proof.Machine

/-- `SoundUnit.step(c)` on the state: the unit advances and the pairs it emits are the iteration's output (R461, R537). -/
def soundStep (c : Nat) (s : State) : State :=
  { s with snd := (s.snd.step s.cfg c).1, out := { s.out with samples := (s.snd.step s.cfg c).2 } }

/-- Timers, PixelUnit, SoundUnit (R570). -/
def advanceEngines (c : Nat) (s : State) : State := soundStep c (pixelStep c (advanceTimers c s))

end Sys2Proof.Machine
end

