-- ==== Sys2Proof/Syntax.lean ====
section
/-! DEFINITION. The instructions: one constructor per row of spec/opcode_table.json (R139), 256 first bytes and 256 prefixed
second bytes, each with the immediate that follows its opcode bytes (R126). A name spells the row's mnemonic: `Mem` before a
register or immediate is the memory operand in parentheses, `HlInc` and `HlDec` are (HL+) and (HL-). The rows that carry an
immediate come first (the Lean runtime bounds the number of a constructor that has a field), then the others in table order. -/

namespace Sys2Proof

inductive Instr where
  /-- LD BC,nn: 0x01 (R182). -/
  | ldBcNn (nn : Word)
  /-- LD B,n: 0x06 (R151). -/
  | ldBN (n : Byte)
  /-- LD (nn),SP: 0x08 (R181). -/
  | ldMemNnSp (nn : Word)
  /-- LD C,n: 0x0E (R151). -/
  | ldCN (n : Byte)
  /-- STOP: 0x10 (R291); `n` is the byte it ignores. -/
  | stop (n : Byte)
  /-- LD DE,nn: 0x11 (R182). -/
  | ldDeNn (nn : Word)
  /-- LD D,n: 0x16 (R151). -/
  | ldDN (n : Byte)
  /-- JR e: 0x18 (R274). -/
  | jrE (e : Byte)
  /-- LD E,n: 0x1E (R151). -/
  | ldEN (n : Byte)
  /-- JR NZ,e: 0x20 (R275). -/
  | jrNzE (e : Byte)
  /-- LD HL,nn: 0x21 (R182). -/
  | ldHlNn (nn : Word)
  /-- LD H,n: 0x26 (R151). -/
  | ldHN (n : Byte)
  /-- JR Z,e: 0x28 (R275). -/
  | jrZE (e : Byte)
  /-- LD L,n: 0x2E (R151). -/
  | ldLN (n : Byte)
  /-- JR NC,e: 0x30 (R275). -/
  | jrNcE (e : Byte)
  /-- LD SP,nn: 0x31 (R182). -/
  | ldSpNn (nn : Word)
  /-- LD (HL),n: 0x36 (R154). -/
  | ldMemHlN (n : Byte)
  /-- JR C,e: 0x38 (R275). -/
  | jrCE (e : Byte)
  /-- LD A,n: 0x3E (R151). -/
  | ldAN (n : Byte)
  /-- JP NZ,nn: 0xC2 (R272). -/
  | jpNzNn (nn : Word)
  /-- JP nn: 0xC3 (R271). -/
  | jpNn (nn : Word)
  /-- CALL NZ,nn: 0xC4 (R277). -/
  | callNzNn (nn : Word)
  /-- ADD A,n: 0xC6 (R203). -/
  | addAN (n : Byte)
  /-- JP Z,nn: 0xCA (R272). -/
  | jpZNn (nn : Word)
  /-- PREFIX CB: 0xCB (R294); not an instruction of its own: it selects the prefixed instruction `op2`. -/
  | prefixCb (op2 : Byte)
  /-- CALL Z,nn: 0xCC (R277). -/
  | callZNn (nn : Word)
  /-- CALL nn: 0xCD (R276). -/
  | callNn (nn : Word)
  /-- ADC A,n: 0xCE (R206). -/
  | adcAN (n : Byte)
  /-- JP NC,nn: 0xD2 (R272). -/
  | jpNcNn (nn : Word)
  /-- CALL NC,nn: 0xD4 (R277). -/
  | callNcNn (nn : Word)
  /-- SUB n: 0xD6 (R209). -/
  | subN (n : Byte)
  /-- JP C,nn: 0xDA (R272). -/
  | jpCNn (nn : Word)
  /-- CALL C,nn: 0xDC (R277). -/
  | callCNn (nn : Word)
  /-- SBC A,n: 0xDE (R212). -/
  | sbcAN (n : Byte)
  /-- LDH (n),A: 0xE0 (R160). -/
  | ldhMemNA (n : Byte)
  /-- AND n: 0xE6 (R215). -/
  | andN (n : Byte)
  /-- ADD SP,e: 0xE8 (R243). -/
  | addSpE (e : Byte)
  /-- LD (nn),A: 0xEA (R164). -/
  | ldMemNnA (nn : Word)
  /-- XOR n: 0xEE (R218). -/
  | xorN (n : Byte)
  /-- LDH A,(n): 0xF0 (R159). -/
  | ldhAMemN (n : Byte)
  /-- OR n: 0xF6 (R221). -/
  | orN (n : Byte)
  /-- LD HL,SP+e: 0xF8 (R186). -/
  | ldHlSpE (e : Byte)
  /-- LD A,(nn): 0xFA (R163). -/
  | ldAMemNn (nn : Word)
  /-- CP n: 0xFE (R224). -/
  | cpN (n : Byte)
  /-- NOP: 0x00 (R250). -/
  | nop
  /-- LD (BC),A: 0x02 (R157). -/
  | ldMemBcA
  /-- INC BC: 0x03 (R241). -/
  | incBc
  /-- INC B: 0x04 (R225). -/
  | incB
  /-- DEC B: 0x05 (R227). -/
  | decB
  /-- RLCA: 0x07 (R251). -/
  | rlca
  /-- ADD HL,BC: 0x09 (R240). -/
  | addHlBc
  /-- LD A,(BC): 0x0A (R155). -/
  | ldAMemBc
  /-- DEC BC: 0x0B (R242). -/
  | decBc
  /-- INC C: 0x0C (R225). -/
  | incC
  /-- DEC C: 0x0D (R227). -/
  | decC
  /-- RRCA: 0x0F (R252). -/
  | rrca
  /-- LD (DE),A: 0x12 (R158). -/
  | ldMemDeA
  /-- INC DE: 0x13 (R241). -/
  | incDe
  /-- INC D: 0x14 (R225). -/
  | incD
  /-- DEC D: 0x15 (R227). -/
  | decD
  /-- RLA: 0x17 (R253). -/
  | rla
  /-- ADD HL,DE: 0x19 (R240). -/
  | addHlDe
  /-- LD A,(DE): 0x1A (R156). -/
  | ldAMemDe
  /-- DEC DE: 0x1B (R242). -/
  | decDe
  /-- INC E: 0x1C (R225). -/
  | incE
  /-- DEC E: 0x1D (R227). -/
  | decE
  /-- RRA: 0x1F (R254). -/
  | rra
  /-- LD (HL+),A: 0x22 (R167). -/
  | ldMemHlIncA
  /-- INC HL: 0x23 (R241). -/
  | incHl
  /-- INC H: 0x24 (R225). -/
  | incH
  /-- DEC H: 0x25 (R227). -/
  | decH
  /-- DAA: 0x27 (R255). -/
  | daa
  /-- ADD HL,HL: 0x29 (R240). -/
  | addHlHl
  /-- LD A,(HL+): 0x2A (R165). -/
  | ldAMemHlInc
  /-- DEC HL: 0x2B (R242). -/
  | decHl
  /-- INC L: 0x2C (R225). -/
  | incL
  /-- DEC L: 0x2D (R227). -/
  | decL
  /-- CPL: 0x2F (R256). -/
  | cpl
  /-- LD (HL-),A: 0x32 (R168). -/
  | ldMemHlDecA
  /-- INC SP: 0x33 (R241). -/
  | incSp
  /-- INC (HL): 0x34 (R226). -/
  | incMemHl
  /-- DEC (HL): 0x35 (R228). -/
  | decMemHl
  /-- SCF: 0x37 (R257). -/
  | scf
  /-- ADD HL,SP: 0x39 (R240). -/
  | addHlSp
  /-- LD A,(HL-): 0x3A (R166). -/
  | ldAMemHlDec
  /-- DEC SP: 0x3B (R242). -/
  | decSp
  /-- INC A: 0x3C (R225). -/
  | incA
  /-- DEC A: 0x3D (R227). -/
  | decA
  /-- CCF: 0x3F (R258). -/
  | ccf
  /-- LD B,B: 0x40 (R150). -/
  | ldBB
  /-- LD B,C: 0x41 (R150). -/
  | ldBC
  /-- LD B,D: 0x42 (R150). -/
  | ldBD
  /-- LD B,E: 0x43 (R150). -/
  | ldBE
  /-- LD B,H: 0x44 (R150). -/
  | ldBH
  /-- LD B,L: 0x45 (R150). -/
  | ldBL
  /-- LD B,(HL): 0x46 (R152). -/
  | ldBMemHl
  /-- LD B,A: 0x47 (R150). -/
  | ldBA
  /-- LD C,B: 0x48 (R150). -/
  | ldCB
  /-- LD C,C: 0x49 (R150). -/
  | ldCC
  /-- LD C,D: 0x4A (R150). -/
  | ldCD
  /-- LD C,E: 0x4B (R150). -/
  | ldCE
  /-- LD C,H: 0x4C (R150). -/
  | ldCH
  /-- LD C,L: 0x4D (R150). -/
  | ldCL
  /-- LD C,(HL): 0x4E (R152). -/
  | ldCMemHl
  /-- LD C,A: 0x4F (R150). -/
  | ldCA
  /-- LD D,B: 0x50 (R150). -/
  | ldDB
  /-- LD D,C: 0x51 (R150). -/
  | ldDC
  /-- LD D,D: 0x52 (R150). -/
  | ldDD
  /-- LD D,E: 0x53 (R150). -/
  | ldDE
  /-- LD D,H: 0x54 (R150). -/
  | ldDH
  /-- LD D,L: 0x55 (R150). -/
  | ldDL
  /-- LD D,(HL): 0x56 (R152). -/
  | ldDMemHl
  /-- LD D,A: 0x57 (R150). -/
  | ldDA
  /-- LD E,B: 0x58 (R150). -/
  | ldEB
  /-- LD E,C: 0x59 (R150). -/
  | ldEC
  /-- LD E,D: 0x5A (R150). -/
  | ldED
  /-- LD E,E: 0x5B (R150). -/
  | ldEE
  /-- LD E,H: 0x5C (R150). -/
  | ldEH
  /-- LD E,L: 0x5D (R150). -/
  | ldEL
  /-- LD E,(HL): 0x5E (R152). -/
  | ldEMemHl
  /-- LD E,A: 0x5F (R150). -/
  | ldEA
  /-- LD H,B: 0x60 (R150). -/
  | ldHB
  /-- LD H,C: 0x61 (R150). -/
  | ldHC
  /-- LD H,D: 0x62 (R150). -/
  | ldHD
  /-- LD H,E: 0x63 (R150). -/
  | ldHE
  /-- LD H,H: 0x64 (R150). -/
  | ldHH
  /-- LD H,L: 0x65 (R150). -/
  | ldHL
  /-- LD H,(HL): 0x66 (R152). -/
  | ldHMemHl
  /-- LD H,A: 0x67 (R150). -/
  | ldHA
  /-- LD L,B: 0x68 (R150). -/
  | ldLB
  /-- LD L,C: 0x69 (R150). -/
  | ldLC
  /-- LD L,D: 0x6A (R150). -/
  | ldLD
  /-- LD L,E: 0x6B (R150). -/
  | ldLE
  /-- LD L,H: 0x6C (R150). -/
  | ldLH
  /-- LD L,L: 0x6D (R150). -/
  | ldLL
  /-- LD L,(HL): 0x6E (R152). -/
  | ldLMemHl
  /-- LD L,A: 0x6F (R150). -/
  | ldLA
  /-- LD (HL),B: 0x70 (R153). -/
  | ldMemHlB
  /-- LD (HL),C: 0x71 (R153). -/
  | ldMemHlC
  /-- LD (HL),D: 0x72 (R153). -/
  | ldMemHlD
  /-- LD (HL),E: 0x73 (R153). -/
  | ldMemHlE
  /-- LD (HL),H: 0x74 (R153). -/
  | ldMemHlH
  /-- LD (HL),L: 0x75 (R153). -/
  | ldMemHlL
  /-- HALT: 0x76 (R290). -/
  | halt
  /-- LD (HL),A: 0x77 (R153). -/
  | ldMemHlA
  /-- LD A,B: 0x78 (R150). -/
  | ldAB
  /-- LD A,C: 0x79 (R150). -/
  | ldAC
  /-- LD A,D: 0x7A (R150). -/
  | ldAD
  /-- LD A,E: 0x7B (R150). -/
  | ldAE
  /-- LD A,H: 0x7C (R150). -/
  | ldAH
  /-- LD A,L: 0x7D (R150). -/
  | ldAL
  /-- LD A,(HL): 0x7E (R152). -/
  | ldAMemHl
  /-- LD A,A: 0x7F (R150). -/
  | ldAA
  /-- ADD A,B: 0x80 (R201). -/
  | addAB
  /-- ADD A,C: 0x81 (R201). -/
  | addAC
  /-- ADD A,D: 0x82 (R201). -/
  | addAD
  /-- ADD A,E: 0x83 (R201). -/
  | addAE
  /-- ADD A,H: 0x84 (R201). -/
  | addAH
  /-- ADD A,L: 0x85 (R201). -/
  | addAL
  /-- ADD A,(HL): 0x86 (R202). -/
  | addAMemHl
  /-- ADD A,A: 0x87 (R201). -/
  | addAA
  /-- ADC A,B: 0x88 (R204). -/
  | adcAB
  /-- ADC A,C: 0x89 (R204). -/
  | adcAC
  /-- ADC A,D: 0x8A (R204). -/
  | adcAD
  /-- ADC A,E: 0x8B (R204). -/
  | adcAE
  /-- ADC A,H: 0x8C (R204). -/
  | adcAH
  /-- ADC A,L: 0x8D (R204). -/
  | adcAL
  /-- ADC A,(HL): 0x8E (R205). -/
  | adcAMemHl
  /-- ADC A,A: 0x8F (R204). -/
  | adcAA
  /-- SUB B: 0x90 (R207). -/
  | subB
  /-- SUB C: 0x91 (R207). -/
  | subC
  /-- SUB D: 0x92 (R207). -/
  | subD
  /-- SUB E: 0x93 (R207). -/
  | subE
  /-- SUB H: 0x94 (R207). -/
  | subH
  /-- SUB L: 0x95 (R207). -/
  | subL
  /-- SUB (HL): 0x96 (R208). -/
  | subMemHl
  /-- SUB A: 0x97 (R207). -/
  | subA
  /-- SBC A,B: 0x98 (R210). -/
  | sbcAB
  /-- SBC A,C: 0x99 (R210). -/
  | sbcAC
  /-- SBC A,D: 0x9A (R210). -/
  | sbcAD
  /-- SBC A,E: 0x9B (R210). -/
  | sbcAE
  /-- SBC A,H: 0x9C (R210). -/
  | sbcAH
  /-- SBC A,L: 0x9D (R210). -/
  | sbcAL
  /-- SBC A,(HL): 0x9E (R211). -/
  | sbcAMemHl
  /-- SBC A,A: 0x9F (R210). -/
  | sbcAA
  /-- AND B: 0xA0 (R213). -/
  | andB
  /-- AND C: 0xA1 (R213). -/
  | andC
  /-- AND D: 0xA2 (R213). -/
  | andD
  /-- AND E: 0xA3 (R213). -/
  | andE
  /-- AND H: 0xA4 (R213). -/
  | andH
  /-- AND L: 0xA5 (R213). -/
  | andL
  /-- AND (HL): 0xA6 (R214). -/
  | andMemHl
  /-- AND A: 0xA7 (R213). -/
  | andA
  /-- XOR B: 0xA8 (R216). -/
  | xorB
  /-- XOR C: 0xA9 (R216). -/
  | xorC
  /-- XOR D: 0xAA (R216). -/
  | xorD
  /-- XOR E: 0xAB (R216). -/
  | xorE
  /-- XOR H: 0xAC (R216). -/
  | xorH
  /-- XOR L: 0xAD (R216). -/
  | xorL
  /-- XOR (HL): 0xAE (R217). -/
  | xorMemHl
  /-- XOR A: 0xAF (R216). -/
  | xorA
  /-- OR B: 0xB0 (R219). -/
  | orB
  /-- OR C: 0xB1 (R219). -/
  | orC
  /-- OR D: 0xB2 (R219). -/
  | orD
  /-- OR E: 0xB3 (R219). -/
  | orE
  /-- OR H: 0xB4 (R219). -/
  | orH
  /-- OR L: 0xB5 (R219). -/
  | orL
  /-- OR (HL): 0xB6 (R220). -/
  | orMemHl
  /-- OR A: 0xB7 (R219). -/
  | orA
  /-- CP B: 0xB8 (R222). -/
  | cpB
  /-- CP C: 0xB9 (R222). -/
  | cpC
  /-- CP D: 0xBA (R222). -/
  | cpD
  /-- CP E: 0xBB (R222). -/
  | cpE
  /-- CP H: 0xBC (R222). -/
  | cpH
  /-- CP L: 0xBD (R222). -/
  | cpL
  /-- CP (HL): 0xBE (R223). -/
  | cpMemHl
  /-- CP A: 0xBF (R222). -/
  | cpA
  /-- RET NZ: 0xC0 (R279). -/
  | retNz
  /-- POP BC: 0xC1 (R185). -/
  | popBc
  /-- PUSH BC: 0xC5 (R184). -/
  | pushBc
  /-- RST 0x00: 0xC7 (R281). -/
  | rst00
  /-- RET Z: 0xC8 (R279). -/
  | retZ
  /-- RET: 0xC9 (R278). -/
  | ret
  /-- RST 0x08: 0xCF (R281). -/
  | rst08
  /-- RET NC: 0xD0 (R279). -/
  | retNc
  /-- POP DE: 0xD1 (R185). -/
  | popDe
  /-- UNDEFINED 0xD3: 0xD3 (R295). -/
  | undefinedD3
  /-- PUSH DE: 0xD5 (R184). -/
  | pushDe
  /-- RST 0x10: 0xD7 (R281). -/
  | rst10
  /-- RET C: 0xD8 (R279). -/
  | retC
  /-- RETI: 0xD9 (R280). -/
  | reti
  /-- UNDEFINED 0xDB: 0xDB (R295). -/
  | undefinedDB
  /-- UNDEFINED 0xDD: 0xDD (R295). -/
  | undefinedDD
  /-- RST 0x18: 0xDF (R281). -/
  | rst18
  /-- POP HL: 0xE1 (R185). -/
  | popHl
  /-- LDH (C),A: 0xE2 (R162). -/
  | ldhMemCA
  /-- UNDEFINED 0xE3: 0xE3 (R295). -/
  | undefinedE3
  /-- UNDEFINED 0xE4: 0xE4 (R295). -/
  | undefinedE4
  /-- PUSH HL: 0xE5 (R184). -/
  | pushHl
  /-- RST 0x20: 0xE7 (R281). -/
  | rst20
  /-- JP HL: 0xE9 (R273). -/
  | jpHl
  /-- UNDEFINED 0xEB: 0xEB (R295). -/
  | undefinedEB
  /-- UNDEFINED 0xEC: 0xEC (R295). -/
  | undefinedEC
  /-- UNDEFINED 0xED: 0xED (R295). -/
  | undefinedED
  /-- RST 0x28: 0xEF (R281). -/
  | rst28
  /-- POP AF: 0xF1 (R185). -/
  | popAf
  /-- LDH A,(C): 0xF2 (R161). -/
  | ldhAMemC
  /-- DI: 0xF3 (R292). -/
  | di
  /-- UNDEFINED 0xF4: 0xF4 (R295). -/
  | undefinedF4
  /-- PUSH AF: 0xF5 (R184). -/
  | pushAf
  /-- RST 0x30: 0xF7 (R281). -/
  | rst30
  /-- LD SP,HL: 0xF9 (R183). -/
  | ldSpHl
  /-- EI: 0xFB (R293). -/
  | ei
  /-- UNDEFINED 0xFC: 0xFC (R295). -/
  | undefinedFC
  /-- UNDEFINED 0xFD: 0xFD (R295). -/
  | undefinedFD
  /-- RST 0x38: 0xFF (R281). -/
  | rst38
  /-- RLC B: 0xCB 0x00 (R301). -/
  | rlcB
  /-- RLC C: 0xCB 0x01 (R301). -/
  | rlcC
  /-- RLC D: 0xCB 0x02 (R301). -/
  | rlcD
  /-- RLC E: 0xCB 0x03 (R301). -/
  | rlcE
  /-- RLC H: 0xCB 0x04 (R301). -/
  | rlcH
  /-- RLC L: 0xCB 0x05 (R301). -/
  | rlcL
  /-- RLC (HL): 0xCB 0x06 (R302). -/
  | rlcMemHl
  /-- RLC A: 0xCB 0x07 (R301). -/
  | rlcA
  /-- RRC B: 0xCB 0x08 (R303). -/
  | rrcB
  /-- RRC C: 0xCB 0x09 (R303). -/
  | rrcC
  /-- RRC D: 0xCB 0x0A (R303). -/
  | rrcD
  /-- RRC E: 0xCB 0x0B (R303). -/
  | rrcE
  /-- RRC H: 0xCB 0x0C (R303). -/
  | rrcH
  /-- RRC L: 0xCB 0x0D (R303). -/
  | rrcL
  /-- RRC (HL): 0xCB 0x0E (R304). -/
  | rrcMemHl
  /-- RRC A: 0xCB 0x0F (R303). -/
  | rrcA
  /-- RL B: 0xCB 0x10 (R305). -/
  | rlB
  /-- RL C: 0xCB 0x11 (R305). -/
  | rlC
  /-- RL D: 0xCB 0x12 (R305). -/
  | rlD
  /-- RL E: 0xCB 0x13 (R305). -/
  | rlE
  /-- RL H: 0xCB 0x14 (R305). -/
  | rlH
  /-- RL L: 0xCB 0x15 (R305). -/
  | rlL
  /-- RL (HL): 0xCB 0x16 (R306). -/
  | rlMemHl
  /-- RL A: 0xCB 0x17 (R305). -/
  | rlA
  /-- RR B: 0xCB 0x18 (R307). -/
  | rrB
  /-- RR C: 0xCB 0x19 (R307). -/
  | rrC
  /-- RR D: 0xCB 0x1A (R307). -/
  | rrD
  /-- RR E: 0xCB 0x1B (R307). -/
  | rrE
  /-- RR H: 0xCB 0x1C (R307). -/
  | rrH
  /-- RR L: 0xCB 0x1D (R307). -/
  | rrL
  /-- RR (HL): 0xCB 0x1E (R308). -/
  | rrMemHl
  /-- RR A: 0xCB 0x1F (R307). -/
  | rrA
  /-- SLA B: 0xCB 0x20 (R309). -/
  | slaB
  /-- SLA C: 0xCB 0x21 (R309). -/
  | slaC
  /-- SLA D: 0xCB 0x22 (R309). -/
  | slaD
  /-- SLA E: 0xCB 0x23 (R309). -/
  | slaE
  /-- SLA H: 0xCB 0x24 (R309). -/
  | slaH
  /-- SLA L: 0xCB 0x25 (R309). -/
  | slaL
  /-- SLA (HL): 0xCB 0x26 (R310). -/
  | slaMemHl
  /-- SLA A: 0xCB 0x27 (R309). -/
  | slaA
  /-- SRA B: 0xCB 0x28 (R311). -/
  | sraB
  /-- SRA C: 0xCB 0x29 (R311). -/
  | sraC
  /-- SRA D: 0xCB 0x2A (R311). -/
  | sraD
  /-- SRA E: 0xCB 0x2B (R311). -/
  | sraE
  /-- SRA H: 0xCB 0x2C (R311). -/
  | sraH
  /-- SRA L: 0xCB 0x2D (R311). -/
  | sraL
  /-- SRA (HL): 0xCB 0x2E (R312). -/
  | sraMemHl
  /-- SRA A: 0xCB 0x2F (R311). -/
  | sraA
  /-- SWAP B: 0xCB 0x30 (R313). -/
  | swapB
  /-- SWAP C: 0xCB 0x31 (R313). -/
  | swapC
  /-- SWAP D: 0xCB 0x32 (R313). -/
  | swapD
  /-- SWAP E: 0xCB 0x33 (R313). -/
  | swapE
  /-- SWAP H: 0xCB 0x34 (R313). -/
  | swapH
  /-- SWAP L: 0xCB 0x35 (R313). -/
  | swapL
  /-- SWAP (HL): 0xCB 0x36 (R314). -/
  | swapMemHl
  /-- SWAP A: 0xCB 0x37 (R313). -/
  | swapA
  /-- SRL B: 0xCB 0x38 (R315). -/
  | srlB
  /-- SRL C: 0xCB 0x39 (R315). -/
  | srlC
  /-- SRL D: 0xCB 0x3A (R315). -/
  | srlD
  /-- SRL E: 0xCB 0x3B (R315). -/
  | srlE
  /-- SRL H: 0xCB 0x3C (R315). -/
  | srlH
  /-- SRL L: 0xCB 0x3D (R315). -/
  | srlL
  /-- SRL (HL): 0xCB 0x3E (R316). -/
  | srlMemHl
  /-- SRL A: 0xCB 0x3F (R315). -/
  | srlA
  /-- BIT 0,B: 0xCB 0x40 (R317). -/
  | bit0B
  /-- BIT 0,C: 0xCB 0x41 (R317). -/
  | bit0C
  /-- BIT 0,D: 0xCB 0x42 (R317). -/
  | bit0D
  /-- BIT 0,E: 0xCB 0x43 (R317). -/
  | bit0E
  /-- BIT 0,H: 0xCB 0x44 (R317). -/
  | bit0H
  /-- BIT 0,L: 0xCB 0x45 (R317). -/
  | bit0L
  /-- BIT 0,(HL): 0xCB 0x46 (R318). -/
  | bit0MemHl
  /-- BIT 0,A: 0xCB 0x47 (R317). -/
  | bit0A
  /-- BIT 1,B: 0xCB 0x48 (R317). -/
  | bit1B
  /-- BIT 1,C: 0xCB 0x49 (R317). -/
  | bit1C
  /-- BIT 1,D: 0xCB 0x4A (R317). -/
  | bit1D
  /-- BIT 1,E: 0xCB 0x4B (R317). -/
  | bit1E
  /-- BIT 1,H: 0xCB 0x4C (R317). -/
  | bit1H
  /-- BIT 1,L: 0xCB 0x4D (R317). -/
  | bit1L
  /-- BIT 1,(HL): 0xCB 0x4E (R318). -/
  | bit1MemHl
  /-- BIT 1,A: 0xCB 0x4F (R317). -/
  | bit1A
  /-- BIT 2,B: 0xCB 0x50 (R317). -/
  | bit2B
  /-- BIT 2,C: 0xCB 0x51 (R317). -/
  | bit2C
  /-- BIT 2,D: 0xCB 0x52 (R317). -/
  | bit2D
  /-- BIT 2,E: 0xCB 0x53 (R317). -/
  | bit2E
  /-- BIT 2,H: 0xCB 0x54 (R317). -/
  | bit2H
  /-- BIT 2,L: 0xCB 0x55 (R317). -/
  | bit2L
  /-- BIT 2,(HL): 0xCB 0x56 (R318). -/
  | bit2MemHl
  /-- BIT 2,A: 0xCB 0x57 (R317). -/
  | bit2A
  /-- BIT 3,B: 0xCB 0x58 (R317). -/
  | bit3B
  /-- BIT 3,C: 0xCB 0x59 (R317). -/
  | bit3C
  /-- BIT 3,D: 0xCB 0x5A (R317). -/
  | bit3D
  /-- BIT 3,E: 0xCB 0x5B (R317). -/
  | bit3E
  /-- BIT 3,H: 0xCB 0x5C (R317). -/
  | bit3H
  /-- BIT 3,L: 0xCB 0x5D (R317). -/
  | bit3L
  /-- BIT 3,(HL): 0xCB 0x5E (R318). -/
  | bit3MemHl
  /-- BIT 3,A: 0xCB 0x5F (R317). -/
  | bit3A
  /-- BIT 4,B: 0xCB 0x60 (R317). -/
  | bit4B
  /-- BIT 4,C: 0xCB 0x61 (R317). -/
  | bit4C
  /-- BIT 4,D: 0xCB 0x62 (R317). -/
  | bit4D
  /-- BIT 4,E: 0xCB 0x63 (R317). -/
  | bit4E
  /-- BIT 4,H: 0xCB 0x64 (R317). -/
  | bit4H
  /-- BIT 4,L: 0xCB 0x65 (R317). -/
  | bit4L
  /-- BIT 4,(HL): 0xCB 0x66 (R318). -/
  | bit4MemHl
  /-- BIT 4,A: 0xCB 0x67 (R317). -/
  | bit4A
  /-- BIT 5,B: 0xCB 0x68 (R317). -/
  | bit5B
  /-- BIT 5,C: 0xCB 0x69 (R317). -/
  | bit5C
  /-- BIT 5,D: 0xCB 0x6A (R317). -/
  | bit5D
  /-- BIT 5,E: 0xCB 0x6B (R317). -/
  | bit5E
  /-- BIT 5,H: 0xCB 0x6C (R317). -/
  | bit5H
  /-- BIT 5,L: 0xCB 0x6D (R317). -/
  | bit5L
  /-- BIT 5,(HL): 0xCB 0x6E (R318). -/
  | bit5MemHl
  /-- BIT 5,A: 0xCB 0x6F (R317). -/
  | bit5A
  /-- BIT 6,B: 0xCB 0x70 (R317). -/
  | bit6B
  /-- BIT 6,C: 0xCB 0x71 (R317). -/
  | bit6C
  /-- BIT 6,D: 0xCB 0x72 (R317). -/
  | bit6D
  /-- BIT 6,E: 0xCB 0x73 (R317). -/
  | bit6E
  /-- BIT 6,H: 0xCB 0x74 (R317). -/
  | bit6H
  /-- BIT 6,L: 0xCB 0x75 (R317). -/
  | bit6L
  /-- BIT 6,(HL): 0xCB 0x76 (R318). -/
  | bit6MemHl
  /-- BIT 6,A: 0xCB 0x77 (R317). -/
  | bit6A
  /-- BIT 7,B: 0xCB 0x78 (R317). -/
  | bit7B
  /-- BIT 7,C: 0xCB 0x79 (R317). -/
  | bit7C
  /-- BIT 7,D: 0xCB 0x7A (R317). -/
  | bit7D
  /-- BIT 7,E: 0xCB 0x7B (R317). -/
  | bit7E
  /-- BIT 7,H: 0xCB 0x7C (R317). -/
  | bit7H
  /-- BIT 7,L: 0xCB 0x7D (R317). -/
  | bit7L
  /-- BIT 7,(HL): 0xCB 0x7E (R318). -/
  | bit7MemHl
  /-- BIT 7,A: 0xCB 0x7F (R317). -/
  | bit7A
  /-- RES 0,B: 0xCB 0x80 (R319). -/
  | res0B
  /-- RES 0,C: 0xCB 0x81 (R319). -/
  | res0C
  /-- RES 0,D: 0xCB 0x82 (R319). -/
  | res0D
  /-- RES 0,E: 0xCB 0x83 (R319). -/
  | res0E
  /-- RES 0,H: 0xCB 0x84 (R319). -/
  | res0H
  /-- RES 0,L: 0xCB 0x85 (R319). -/
  | res0L
  /-- RES 0,(HL): 0xCB 0x86 (R320). -/
  | res0MemHl
  /-- RES 0,A: 0xCB 0x87 (R319). -/
  | res0A
  /-- RES 1,B: 0xCB 0x88 (R319). -/
  | res1B
  /-- RES 1,C: 0xCB 0x89 (R319). -/
  | res1C
  /-- RES 1,D: 0xCB 0x8A (R319). -/
  | res1D
  /-- RES 1,E: 0xCB 0x8B (R319). -/
  | res1E
  /-- RES 1,H: 0xCB 0x8C (R319). -/
  | res1H
  /-- RES 1,L: 0xCB 0x8D (R319). -/
  | res1L
  /-- RES 1,(HL): 0xCB 0x8E (R320). -/
  | res1MemHl
  /-- RES 1,A: 0xCB 0x8F (R319). -/
  | res1A
  /-- RES 2,B: 0xCB 0x90 (R319). -/
  | res2B
  /-- RES 2,C: 0xCB 0x91 (R319). -/
  | res2C
  /-- RES 2,D: 0xCB 0x92 (R319). -/
  | res2D
  /-- RES 2,E: 0xCB 0x93 (R319). -/
  | res2E
  /-- RES 2,H: 0xCB 0x94 (R319). -/
  | res2H
  /-- RES 2,L: 0xCB 0x95 (R319). -/
  | res2L
  /-- RES 2,(HL): 0xCB 0x96 (R320). -/
  | res2MemHl
  /-- RES 2,A: 0xCB 0x97 (R319). -/
  | res2A
  /-- RES 3,B: 0xCB 0x98 (R319). -/
  | res3B
  /-- RES 3,C: 0xCB 0x99 (R319). -/
  | res3C
  /-- RES 3,D: 0xCB 0x9A (R319). -/
  | res3D
  /-- RES 3,E: 0xCB 0x9B (R319). -/
  | res3E
  /-- RES 3,H: 0xCB 0x9C (R319). -/
  | res3H
  /-- RES 3,L: 0xCB 0x9D (R319). -/
  | res3L
  /-- RES 3,(HL): 0xCB 0x9E (R320). -/
  | res3MemHl
  /-- RES 3,A: 0xCB 0x9F (R319). -/
  | res3A
  /-- RES 4,B: 0xCB 0xA0 (R319). -/
  | res4B
  /-- RES 4,C: 0xCB 0xA1 (R319). -/
  | res4C
  /-- RES 4,D: 0xCB 0xA2 (R319). -/
  | res4D
  /-- RES 4,E: 0xCB 0xA3 (R319). -/
  | res4E
  /-- RES 4,H: 0xCB 0xA4 (R319). -/
  | res4H
  /-- RES 4,L: 0xCB 0xA5 (R319). -/
  | res4L
  /-- RES 4,(HL): 0xCB 0xA6 (R320). -/
  | res4MemHl
  /-- RES 4,A: 0xCB 0xA7 (R319). -/
  | res4A
  /-- RES 5,B: 0xCB 0xA8 (R319). -/
  | res5B
  /-- RES 5,C: 0xCB 0xA9 (R319). -/
  | res5C
  /-- RES 5,D: 0xCB 0xAA (R319). -/
  | res5D
  /-- RES 5,E: 0xCB 0xAB (R319). -/
  | res5E
  /-- RES 5,H: 0xCB 0xAC (R319). -/
  | res5H
  /-- RES 5,L: 0xCB 0xAD (R319). -/
  | res5L
  /-- RES 5,(HL): 0xCB 0xAE (R320). -/
  | res5MemHl
  /-- RES 5,A: 0xCB 0xAF (R319). -/
  | res5A
  /-- RES 6,B: 0xCB 0xB0 (R319). -/
  | res6B
  /-- RES 6,C: 0xCB 0xB1 (R319). -/
  | res6C
  /-- RES 6,D: 0xCB 0xB2 (R319). -/
  | res6D
  /-- RES 6,E: 0xCB 0xB3 (R319). -/
  | res6E
  /-- RES 6,H: 0xCB 0xB4 (R319). -/
  | res6H
  /-- RES 6,L: 0xCB 0xB5 (R319). -/
  | res6L
  /-- RES 6,(HL): 0xCB 0xB6 (R320). -/
  | res6MemHl
  /-- RES 6,A: 0xCB 0xB7 (R319). -/
  | res6A
  /-- RES 7,B: 0xCB 0xB8 (R319). -/
  | res7B
  /-- RES 7,C: 0xCB 0xB9 (R319). -/
  | res7C
  /-- RES 7,D: 0xCB 0xBA (R319). -/
  | res7D
  /-- RES 7,E: 0xCB 0xBB (R319). -/
  | res7E
  /-- RES 7,H: 0xCB 0xBC (R319). -/
  | res7H
  /-- RES 7,L: 0xCB 0xBD (R319). -/
  | res7L
  /-- RES 7,(HL): 0xCB 0xBE (R320). -/
  | res7MemHl
  /-- RES 7,A: 0xCB 0xBF (R319). -/
  | res7A
  /-- SET 0,B: 0xCB 0xC0 (R321). -/
  | set0B
  /-- SET 0,C: 0xCB 0xC1 (R321). -/
  | set0C
  /-- SET 0,D: 0xCB 0xC2 (R321). -/
  | set0D
  /-- SET 0,E: 0xCB 0xC3 (R321). -/
  | set0E
  /-- SET 0,H: 0xCB 0xC4 (R321). -/
  | set0H
  /-- SET 0,L: 0xCB 0xC5 (R321). -/
  | set0L
  /-- SET 0,(HL): 0xCB 0xC6 (R322). -/
  | set0MemHl
  /-- SET 0,A: 0xCB 0xC7 (R321). -/
  | set0A
  /-- SET 1,B: 0xCB 0xC8 (R321). -/
  | set1B
  /-- SET 1,C: 0xCB 0xC9 (R321). -/
  | set1C
  /-- SET 1,D: 0xCB 0xCA (R321). -/
  | set1D
  /-- SET 1,E: 0xCB 0xCB (R321). -/
  | set1E
  /-- SET 1,H: 0xCB 0xCC (R321). -/
  | set1H
  /-- SET 1,L: 0xCB 0xCD (R321). -/
  | set1L
  /-- SET 1,(HL): 0xCB 0xCE (R322). -/
  | set1MemHl
  /-- SET 1,A: 0xCB 0xCF (R321). -/
  | set1A
  /-- SET 2,B: 0xCB 0xD0 (R321). -/
  | set2B
  /-- SET 2,C: 0xCB 0xD1 (R321). -/
  | set2C
  /-- SET 2,D: 0xCB 0xD2 (R321). -/
  | set2D
  /-- SET 2,E: 0xCB 0xD3 (R321). -/
  | set2E
  /-- SET 2,H: 0xCB 0xD4 (R321). -/
  | set2H
  /-- SET 2,L: 0xCB 0xD5 (R321). -/
  | set2L
  /-- SET 2,(HL): 0xCB 0xD6 (R322). -/
  | set2MemHl
  /-- SET 2,A: 0xCB 0xD7 (R321). -/
  | set2A
  /-- SET 3,B: 0xCB 0xD8 (R321). -/
  | set3B
  /-- SET 3,C: 0xCB 0xD9 (R321). -/
  | set3C
  /-- SET 3,D: 0xCB 0xDA (R321). -/
  | set3D
  /-- SET 3,E: 0xCB 0xDB (R321). -/
  | set3E
  /-- SET 3,H: 0xCB 0xDC (R321). -/
  | set3H
  /-- SET 3,L: 0xCB 0xDD (R321). -/
  | set3L
  /-- SET 3,(HL): 0xCB 0xDE (R322). -/
  | set3MemHl
  /-- SET 3,A: 0xCB 0xDF (R321). -/
  | set3A
  /-- SET 4,B: 0xCB 0xE0 (R321). -/
  | set4B
  /-- SET 4,C: 0xCB 0xE1 (R321). -/
  | set4C
  /-- SET 4,D: 0xCB 0xE2 (R321). -/
  | set4D
  /-- SET 4,E: 0xCB 0xE3 (R321). -/
  | set4E
  /-- SET 4,H: 0xCB 0xE4 (R321). -/
  | set4H
  /-- SET 4,L: 0xCB 0xE5 (R321). -/
  | set4L
  /-- SET 4,(HL): 0xCB 0xE6 (R322). -/
  | set4MemHl
  /-- SET 4,A: 0xCB 0xE7 (R321). -/
  | set4A
  /-- SET 5,B: 0xCB 0xE8 (R321). -/
  | set5B
  /-- SET 5,C: 0xCB 0xE9 (R321). -/
  | set5C
  /-- SET 5,D: 0xCB 0xEA (R321). -/
  | set5D
  /-- SET 5,E: 0xCB 0xEB (R321). -/
  | set5E
  /-- SET 5,H: 0xCB 0xEC (R321). -/
  | set5H
  /-- SET 5,L: 0xCB 0xED (R321). -/
  | set5L
  /-- SET 5,(HL): 0xCB 0xEE (R322). -/
  | set5MemHl
  /-- SET 5,A: 0xCB 0xEF (R321). -/
  | set5A
  /-- SET 6,B: 0xCB 0xF0 (R321). -/
  | set6B
  /-- SET 6,C: 0xCB 0xF1 (R321). -/
  | set6C
  /-- SET 6,D: 0xCB 0xF2 (R321). -/
  | set6D
  /-- SET 6,E: 0xCB 0xF3 (R321). -/
  | set6E
  /-- SET 6,H: 0xCB 0xF4 (R321). -/
  | set6H
  /-- SET 6,L: 0xCB 0xF5 (R321). -/
  | set6L
  /-- SET 6,(HL): 0xCB 0xF6 (R322). -/
  | set6MemHl
  /-- SET 6,A: 0xCB 0xF7 (R321). -/
  | set6A
  /-- SET 7,B: 0xCB 0xF8 (R321). -/
  | set7B
  /-- SET 7,C: 0xCB 0xF9 (R321). -/
  | set7C
  /-- SET 7,D: 0xCB 0xFA (R321). -/
  | set7D
  /-- SET 7,E: 0xCB 0xFB (R321). -/
  | set7E
  /-- SET 7,H: 0xCB 0xFC (R321). -/
  | set7H
  /-- SET 7,L: 0xCB 0xFD (R321). -/
  | set7L
  /-- SET 7,(HL): 0xCB 0xFE (R322). -/
  | set7MemHl
  /-- SET 7,A: 0xCB 0xFF (R321). -/
  | set7A
  deriving DecidableEq, Repr

end Sys2Proof
end

