-- ==== Sys2Proof/WellFormed.lean ====
section
/-! DEFINITION. Which terms of `Instr` stand for an instruction. -/

namespace Sys2Proof

/-- The prefix row of the opcode table "is not an instruction of its own: both bytes are consumed in one executeStep" (R294):
its two bytes are the prefixed instruction that the second byte selects, which has a constructor of its own. Every other row
is an instruction with every value of its immediate (R133: no reserved bits, every value of an immediate is legal). -/
def Instr.wellFormed : Instr → Bool
  | .prefixCb _ => false
  | _ => true

end Sys2Proof
end

