-- ==== Sys2Proof/Decode.lean ====
section
/-! DEFINITION. The decoder and the encoder (spec/30_encoding.md). The two opcode maps are written as R130 and R131 print them:
sixteen rows of sixteen first bytes, and thirty-two rows of eight prefixed second bytes. -/

namespace Sys2Proof

/-- The high byte of a word (R11). -/
def hi8 (w : Word) : Byte := w.extractLsb' 8 8

/-- The low byte of a word (R11). -/
def lo8 (w : Word) : Byte := w.extractLsb' 0 8

/-- The word with a high and a low byte (R11). -/
def joinBytes (high low : Byte) : Word := high ++ low

/-- What a first byte selects: the format of R121 and the instruction. -/
inductive FirstByte where
  /-- One byte: the formats OP and UNDEF. -/
  | op (i : Instr)
  /-- An 8-bit immediate follows: OP_N and OP_E. -/
  | imm8 (mk : Byte → Instr)
  /-- A 16-bit immediate follows, low byte first: OP_NN. -/
  | imm16 (mk : Word → Instr)
  /-- The prefix: a second opcode byte follows, CB_OP. -/
  | second

/-- First bytes 0x00 to 0x0F (R130). -/
def firstByteRow0 : Vector FirstByte 16 :=
  #v[
    .op .nop, .imm16 .ldBcNn, .op .ldMemBcA, .op .incBc,
    .op .incB, .op .decB, .imm8 .ldBN, .op .rlca,
    .imm16 .ldMemNnSp, .op .addHlBc, .op .ldAMemBc, .op .decBc,
    .op .incC, .op .decC, .imm8 .ldCN, .op .rrca]

/-- First bytes 0x10 to 0x1F (R130). -/
def firstByteRow1 : Vector FirstByte 16 :=
  #v[
    .imm8 .stop, .imm16 .ldDeNn, .op .ldMemDeA, .op .incDe,
    .op .incD, .op .decD, .imm8 .ldDN, .op .rla,
    .imm8 .jrE, .op .addHlDe, .op .ldAMemDe, .op .decDe,
    .op .incE, .op .decE, .imm8 .ldEN, .op .rra]

/-- First bytes 0x20 to 0x2F (R130). -/
def firstByteRow2 : Vector FirstByte 16 :=
  #v[
    .imm8 .jrNzE, .imm16 .ldHlNn, .op .ldMemHlIncA, .op .incHl,
    .op .incH, .op .decH, .imm8 .ldHN, .op .daa,
    .imm8 .jrZE, .op .addHlHl, .op .ldAMemHlInc, .op .decHl,
    .op .incL, .op .decL, .imm8 .ldLN, .op .cpl]

/-- First bytes 0x30 to 0x3F (R130). -/
def firstByteRow3 : Vector FirstByte 16 :=
  #v[
    .imm8 .jrNcE, .imm16 .ldSpNn, .op .ldMemHlDecA, .op .incSp,
    .op .incMemHl, .op .decMemHl, .imm8 .ldMemHlN, .op .scf,
    .imm8 .jrCE, .op .addHlSp, .op .ldAMemHlDec, .op .decSp,
    .op .incA, .op .decA, .imm8 .ldAN, .op .ccf]

/-- First bytes 0x40 to 0x4F (R130). -/
def firstByteRow4 : Vector FirstByte 16 :=
  #v[
    .op .ldBB, .op .ldBC, .op .ldBD, .op .ldBE,
    .op .ldBH, .op .ldBL, .op .ldBMemHl, .op .ldBA,
    .op .ldCB, .op .ldCC, .op .ldCD, .op .ldCE,
    .op .ldCH, .op .ldCL, .op .ldCMemHl, .op .ldCA]

/-- First bytes 0x50 to 0x5F (R130). -/
def firstByteRow5 : Vector FirstByte 16 :=
  #v[
    .op .ldDB, .op .ldDC, .op .ldDD, .op .ldDE,
    .op .ldDH, .op .ldDL, .op .ldDMemHl, .op .ldDA,
    .op .ldEB, .op .ldEC, .op .ldED, .op .ldEE,
    .op .ldEH, .op .ldEL, .op .ldEMemHl, .op .ldEA]

/-- First bytes 0x60 to 0x6F (R130). -/
def firstByteRow6 : Vector FirstByte 16 :=
  #v[
    .op .ldHB, .op .ldHC, .op .ldHD, .op .ldHE,
    .op .ldHH, .op .ldHL, .op .ldHMemHl, .op .ldHA,
    .op .ldLB, .op .ldLC, .op .ldLD, .op .ldLE,
    .op .ldLH, .op .ldLL, .op .ldLMemHl, .op .ldLA]

/-- First bytes 0x70 to 0x7F (R130). -/
def firstByteRow7 : Vector FirstByte 16 :=
  #v[
    .op .ldMemHlB, .op .ldMemHlC, .op .ldMemHlD, .op .ldMemHlE,
    .op .ldMemHlH, .op .ldMemHlL, .op .halt, .op .ldMemHlA,
    .op .ldAB, .op .ldAC, .op .ldAD, .op .ldAE,
    .op .ldAH, .op .ldAL, .op .ldAMemHl, .op .ldAA]

/-- First bytes 0x80 to 0x8F (R130). -/
def firstByteRow8 : Vector FirstByte 16 :=
  #v[
    .op .addAB, .op .addAC, .op .addAD, .op .addAE,
    .op .addAH, .op .addAL, .op .addAMemHl, .op .addAA,
    .op .adcAB, .op .adcAC, .op .adcAD, .op .adcAE,
    .op .adcAH, .op .adcAL, .op .adcAMemHl, .op .adcAA]

/-- First bytes 0x90 to 0x9F (R130). -/
def firstByteRow9 : Vector FirstByte 16 :=
  #v[
    .op .subB, .op .subC, .op .subD, .op .subE,
    .op .subH, .op .subL, .op .subMemHl, .op .subA,
    .op .sbcAB, .op .sbcAC, .op .sbcAD, .op .sbcAE,
    .op .sbcAH, .op .sbcAL, .op .sbcAMemHl, .op .sbcAA]

/-- First bytes 0xA0 to 0xAF (R130). -/
def firstByteRowA : Vector FirstByte 16 :=
  #v[
    .op .andB, .op .andC, .op .andD, .op .andE,
    .op .andH, .op .andL, .op .andMemHl, .op .andA,
    .op .xorB, .op .xorC, .op .xorD, .op .xorE,
    .op .xorH, .op .xorL, .op .xorMemHl, .op .xorA]

/-- First bytes 0xB0 to 0xBF (R130). -/
def firstByteRowB : Vector FirstByte 16 :=
  #v[
    .op .orB, .op .orC, .op .orD, .op .orE,
    .op .orH, .op .orL, .op .orMemHl, .op .orA,
    .op .cpB, .op .cpC, .op .cpD, .op .cpE,
    .op .cpH, .op .cpL, .op .cpMemHl, .op .cpA]

/-- First bytes 0xC0 to 0xCF (R130). -/
def firstByteRowC : Vector FirstByte 16 :=
  #v[
    .op .retNz, .op .popBc, .imm16 .jpNzNn, .imm16 .jpNn,
    .imm16 .callNzNn, .op .pushBc, .imm8 .addAN, .op .rst00,
    .op .retZ, .op .ret, .imm16 .jpZNn, .second,
    .imm16 .callZNn, .imm16 .callNn, .imm8 .adcAN, .op .rst08]

/-- First bytes 0xD0 to 0xDF (R130). -/
def firstByteRowD : Vector FirstByte 16 :=
  #v[
    .op .retNc, .op .popDe, .imm16 .jpNcNn, .op .undefinedD3,
    .imm16 .callNcNn, .op .pushDe, .imm8 .subN, .op .rst10,
    .op .retC, .op .reti, .imm16 .jpCNn, .op .undefinedDB,
    .imm16 .callCNn, .op .undefinedDD, .imm8 .sbcAN, .op .rst18]

/-- First bytes 0xE0 to 0xEF (R130). -/
def firstByteRowE : Vector FirstByte 16 :=
  #v[
    .imm8 .ldhMemNA, .op .popHl, .op .ldhMemCA, .op .undefinedE3,
    .op .undefinedE4, .op .pushHl, .imm8 .andN, .op .rst20,
    .imm8 .addSpE, .op .jpHl, .imm16 .ldMemNnA, .op .undefinedEB,
    .op .undefinedEC, .op .undefinedED, .imm8 .xorN, .op .rst28]

/-- First bytes 0xF0 to 0xFF (R130). -/
def firstByteRowF : Vector FirstByte 16 :=
  #v[
    .imm8 .ldhAMemN, .op .popAf, .op .ldhAMemC, .op .di,
    .op .undefinedF4, .op .pushAf, .imm8 .orN, .op .rst30,
    .imm8 .ldHlSpE, .op .ldSpHl, .imm16 .ldAMemNn, .op .ei,
    .op .undefinedFC, .op .undefinedFD, .imm8 .cpN, .op .rst38]

/-- The first-byte map of R130: the row is the high hex digit. -/
def firstByteMap : Vector (Vector FirstByte 16) 16 :=
  #v[
    firstByteRow0, firstByteRow1, firstByteRow2, firstByteRow3,
    firstByteRow4, firstByteRow5, firstByteRow6, firstByteRow7,
    firstByteRow8, firstByteRow9, firstByteRowA, firstByteRowB,
    firstByteRowC, firstByteRowD, firstByteRowE, firstByteRowF]

/-- The entry of a first byte. -/
def firstByte (b : Byte) : FirstByte :=
  (firstByteMap[b.toNat / 16]'(by have := b.isLt; omega))[b.toNat % 16]'(by omega)

/-- Second bytes 0x00 to 0x07 after the prefix (R131): RLC on the eight operands. -/
def prefixedRow00 : Vector Instr 8 := #v[.rlcB, .rlcC, .rlcD, .rlcE, .rlcH, .rlcL, .rlcMemHl, .rlcA]

/-- Second bytes 0x08 to 0x0F after the prefix (R131): RRC on the eight operands. -/
def prefixedRow08 : Vector Instr 8 := #v[.rrcB, .rrcC, .rrcD, .rrcE, .rrcH, .rrcL, .rrcMemHl, .rrcA]

/-- Second bytes 0x10 to 0x17 after the prefix (R131): RL on the eight operands. -/
def prefixedRow10 : Vector Instr 8 := #v[.rlB, .rlC, .rlD, .rlE, .rlH, .rlL, .rlMemHl, .rlA]

/-- Second bytes 0x18 to 0x1F after the prefix (R131): RR on the eight operands. -/
def prefixedRow18 : Vector Instr 8 := #v[.rrB, .rrC, .rrD, .rrE, .rrH, .rrL, .rrMemHl, .rrA]

/-- Second bytes 0x20 to 0x27 after the prefix (R131): SLA on the eight operands. -/
def prefixedRow20 : Vector Instr 8 := #v[.slaB, .slaC, .slaD, .slaE, .slaH, .slaL, .slaMemHl, .slaA]

/-- Second bytes 0x28 to 0x2F after the prefix (R131): SRA on the eight operands. -/
def prefixedRow28 : Vector Instr 8 := #v[.sraB, .sraC, .sraD, .sraE, .sraH, .sraL, .sraMemHl, .sraA]

/-- Second bytes 0x30 to 0x37 after the prefix (R131): SWAP on the eight operands. -/
def prefixedRow30 : Vector Instr 8 := #v[.swapB, .swapC, .swapD, .swapE, .swapH, .swapL, .swapMemHl, .swapA]

/-- Second bytes 0x38 to 0x3F after the prefix (R131): SRL on the eight operands. -/
def prefixedRow38 : Vector Instr 8 := #v[.srlB, .srlC, .srlD, .srlE, .srlH, .srlL, .srlMemHl, .srlA]

/-- Second bytes 0x40 to 0x47 after the prefix (R131): BIT 0, on the eight operands. -/
def prefixedRow40 : Vector Instr 8 := #v[.bit0B, .bit0C, .bit0D, .bit0E, .bit0H, .bit0L, .bit0MemHl, .bit0A]

/-- Second bytes 0x48 to 0x4F after the prefix (R131): BIT 1, on the eight operands. -/
def prefixedRow48 : Vector Instr 8 := #v[.bit1B, .bit1C, .bit1D, .bit1E, .bit1H, .bit1L, .bit1MemHl, .bit1A]

/-- Second bytes 0x50 to 0x57 after the prefix (R131): BIT 2, on the eight operands. -/
def prefixedRow50 : Vector Instr 8 := #v[.bit2B, .bit2C, .bit2D, .bit2E, .bit2H, .bit2L, .bit2MemHl, .bit2A]

/-- Second bytes 0x58 to 0x5F after the prefix (R131): BIT 3, on the eight operands. -/
def prefixedRow58 : Vector Instr 8 := #v[.bit3B, .bit3C, .bit3D, .bit3E, .bit3H, .bit3L, .bit3MemHl, .bit3A]

/-- Second bytes 0x60 to 0x67 after the prefix (R131): BIT 4, on the eight operands. -/
def prefixedRow60 : Vector Instr 8 := #v[.bit4B, .bit4C, .bit4D, .bit4E, .bit4H, .bit4L, .bit4MemHl, .bit4A]

/-- Second bytes 0x68 to 0x6F after the prefix (R131): BIT 5, on the eight operands. -/
def prefixedRow68 : Vector Instr 8 := #v[.bit5B, .bit5C, .bit5D, .bit5E, .bit5H, .bit5L, .bit5MemHl, .bit5A]

/-- Second bytes 0x70 to 0x77 after the prefix (R131): BIT 6, on the eight operands. -/
def prefixedRow70 : Vector Instr 8 := #v[.bit6B, .bit6C, .bit6D, .bit6E, .bit6H, .bit6L, .bit6MemHl, .bit6A]

/-- Second bytes 0x78 to 0x7F after the prefix (R131): BIT 7, on the eight operands. -/
def prefixedRow78 : Vector Instr 8 := #v[.bit7B, .bit7C, .bit7D, .bit7E, .bit7H, .bit7L, .bit7MemHl, .bit7A]

/-- Second bytes 0x80 to 0x87 after the prefix (R131): RES 0, on the eight operands. -/
def prefixedRow80 : Vector Instr 8 := #v[.res0B, .res0C, .res0D, .res0E, .res0H, .res0L, .res0MemHl, .res0A]

/-- Second bytes 0x88 to 0x8F after the prefix (R131): RES 1, on the eight operands. -/
def prefixedRow88 : Vector Instr 8 := #v[.res1B, .res1C, .res1D, .res1E, .res1H, .res1L, .res1MemHl, .res1A]

/-- Second bytes 0x90 to 0x97 after the prefix (R131): RES 2, on the eight operands. -/
def prefixedRow90 : Vector Instr 8 := #v[.res2B, .res2C, .res2D, .res2E, .res2H, .res2L, .res2MemHl, .res2A]

/-- Second bytes 0x98 to 0x9F after the prefix (R131): RES 3, on the eight operands. -/
def prefixedRow98 : Vector Instr 8 := #v[.res3B, .res3C, .res3D, .res3E, .res3H, .res3L, .res3MemHl, .res3A]

/-- Second bytes 0xA0 to 0xA7 after the prefix (R131): RES 4, on the eight operands. -/
def prefixedRowA0 : Vector Instr 8 := #v[.res4B, .res4C, .res4D, .res4E, .res4H, .res4L, .res4MemHl, .res4A]

/-- Second bytes 0xA8 to 0xAF after the prefix (R131): RES 5, on the eight operands. -/
def prefixedRowA8 : Vector Instr 8 := #v[.res5B, .res5C, .res5D, .res5E, .res5H, .res5L, .res5MemHl, .res5A]

/-- Second bytes 0xB0 to 0xB7 after the prefix (R131): RES 6, on the eight operands. -/
def prefixedRowB0 : Vector Instr 8 := #v[.res6B, .res6C, .res6D, .res6E, .res6H, .res6L, .res6MemHl, .res6A]

/-- Second bytes 0xB8 to 0xBF after the prefix (R131): RES 7, on the eight operands. -/
def prefixedRowB8 : Vector Instr 8 := #v[.res7B, .res7C, .res7D, .res7E, .res7H, .res7L, .res7MemHl, .res7A]

/-- Second bytes 0xC0 to 0xC7 after the prefix (R131): SET 0, on the eight operands. -/
def prefixedRowC0 : Vector Instr 8 := #v[.set0B, .set0C, .set0D, .set0E, .set0H, .set0L, .set0MemHl, .set0A]

/-- Second bytes 0xC8 to 0xCF after the prefix (R131): SET 1, on the eight operands. -/
def prefixedRowC8 : Vector Instr 8 := #v[.set1B, .set1C, .set1D, .set1E, .set1H, .set1L, .set1MemHl, .set1A]

/-- Second bytes 0xD0 to 0xD7 after the prefix (R131): SET 2, on the eight operands. -/
def prefixedRowD0 : Vector Instr 8 := #v[.set2B, .set2C, .set2D, .set2E, .set2H, .set2L, .set2MemHl, .set2A]

/-- Second bytes 0xD8 to 0xDF after the prefix (R131): SET 3, on the eight operands. -/
def prefixedRowD8 : Vector Instr 8 := #v[.set3B, .set3C, .set3D, .set3E, .set3H, .set3L, .set3MemHl, .set3A]

/-- Second bytes 0xE0 to 0xE7 after the prefix (R131): SET 4, on the eight operands. -/
def prefixedRowE0 : Vector Instr 8 := #v[.set4B, .set4C, .set4D, .set4E, .set4H, .set4L, .set4MemHl, .set4A]

/-- Second bytes 0xE8 to 0xEF after the prefix (R131): SET 5, on the eight operands. -/
def prefixedRowE8 : Vector Instr 8 := #v[.set5B, .set5C, .set5D, .set5E, .set5H, .set5L, .set5MemHl, .set5A]

/-- Second bytes 0xF0 to 0xF7 after the prefix (R131): SET 6, on the eight operands. -/
def prefixedRowF0 : Vector Instr 8 := #v[.set6B, .set6C, .set6D, .set6E, .set6H, .set6L, .set6MemHl, .set6A]

/-- Second bytes 0xF8 to 0xFF after the prefix (R131): SET 7, on the eight operands. -/
def prefixedRowF8 : Vector Instr 8 := #v[.set7B, .set7C, .set7D, .set7E, .set7H, .set7L, .set7MemHl, .set7A]

/-- The prefixed map of R131, eight second bytes a row. -/
def prefixedMap : Vector (Vector Instr 8) 32 :=
  #v[
    prefixedRow00, prefixedRow08, prefixedRow10, prefixedRow18, prefixedRow20, prefixedRow28, prefixedRow30, prefixedRow38,
    prefixedRow40, prefixedRow48, prefixedRow50, prefixedRow58, prefixedRow60, prefixedRow68, prefixedRow70, prefixedRow78,
    prefixedRow80, prefixedRow88, prefixedRow90, prefixedRow98, prefixedRowA0, prefixedRowA8, prefixedRowB0, prefixedRowB8,
    prefixedRowC0, prefixedRowC8, prefixedRowD0, prefixedRowD8, prefixedRowE0, prefixedRowE8, prefixedRowF0, prefixedRowF8]

/-- The instruction of a second byte after the prefix: all 256 are defined (R129). -/
def prefixedInstr (b : Byte) : Instr :=
  (prefixedMap[b.toNat / 8]'(by have := b.isLt; omega))[b.toNat % 8]'(by omega)

/-- The length in bytes that the first byte alone determines (R121, R134). -/
def FirstByte.length : FirstByte → Nat
  | .op _ => 1
  | .imm8 _ => 2
  | .imm16 _ => 3
  | .second => 2

/-- The instruction at the front of three bytes in fetch order. Total: every first byte has an entry, and the eleven with no
instruction are the rows UNDEFINED (R139). Bytes beyond the length play no part. -/
def decodeBytes (b0 b1 b2 : Byte) : Instr :=
  match firstByte b0 with
  | .op i => i
  | .imm8 mk => mk b1
  | .imm16 mk => mk (joinBytes b2 b1)
  | .second => prefixedInstr b1

/-- Why a list of bytes holds no instruction: it ends too early. No other byte string is refused. -/
inductive DecodeRefusal where
  /-- There is no byte at all. -/
  | empty
  /-- Bytes of the instruction that this first byte starts are missing. -/
  | truncated (first : Byte)
  deriving DecidableEq, Repr

/-- The decoder on a list of bytes in fetch order: the instruction at its front and the bytes after it. -/
def decode : List Byte → Except DecodeRefusal (Instr × List Byte)
  | [] => .error .empty
  | b0 :: rest =>
    if rest.length + 1 < (firstByte b0).length then .error (.truncated b0)
    else .ok (decodeBytes b0 (rest.getD 0 0) (rest.getD 1 0), rest.drop ((firstByte b0).length - 1))

/-- The bytes of an instruction in fetch order, from the encodings of the instruction rules (R150 to R322). For the prefix row
they are the bytes of the prefixed instruction it selects. -/
def encode : Instr → List Byte
  | .nop => [0x00]
  | .ldBcNn nn => [0x01, lo8 nn, hi8 nn]
  | .ldMemBcA => [0x02]
  | .incBc => [0x03]
  | .incB => [0x04]
  | .decB => [0x05]
  | .ldBN n => [0x06, n]
  | .rlca => [0x07]
  | .ldMemNnSp nn => [0x08, lo8 nn, hi8 nn]
  | .addHlBc => [0x09]
  | .ldAMemBc => [0x0A]
  | .decBc => [0x0B]
  | .incC => [0x0C]
  | .decC => [0x0D]
  | .ldCN n => [0x0E, n]
  | .rrca => [0x0F]
  | .stop n => [0x10, n]
  | .ldDeNn nn => [0x11, lo8 nn, hi8 nn]
  | .ldMemDeA => [0x12]
  | .incDe => [0x13]
  | .incD => [0x14]
  | .decD => [0x15]
  | .ldDN n => [0x16, n]
  | .rla => [0x17]
  | .jrE e => [0x18, e]
  | .addHlDe => [0x19]
  | .ldAMemDe => [0x1A]
  | .decDe => [0x1B]
  | .incE => [0x1C]
  | .decE => [0x1D]
  | .ldEN n => [0x1E, n]
  | .rra => [0x1F]
  | .jrNzE e => [0x20, e]
  | .ldHlNn nn => [0x21, lo8 nn, hi8 nn]
  | .ldMemHlIncA => [0x22]
  | .incHl => [0x23]
  | .incH => [0x24]
  | .decH => [0x25]
  | .ldHN n => [0x26, n]
  | .daa => [0x27]
  | .jrZE e => [0x28, e]
  | .addHlHl => [0x29]
  | .ldAMemHlInc => [0x2A]
  | .decHl => [0x2B]
  | .incL => [0x2C]
  | .decL => [0x2D]
  | .ldLN n => [0x2E, n]
  | .cpl => [0x2F]
  | .jrNcE e => [0x30, e]
  | .ldSpNn nn => [0x31, lo8 nn, hi8 nn]
  | .ldMemHlDecA => [0x32]
  | .incSp => [0x33]
  | .incMemHl => [0x34]
  | .decMemHl => [0x35]
  | .ldMemHlN n => [0x36, n]
  | .scf => [0x37]
  | .jrCE e => [0x38, e]
  | .addHlSp => [0x39]
  | .ldAMemHlDec => [0x3A]
  | .decSp => [0x3B]
  | .incA => [0x3C]
  | .decA => [0x3D]
  | .ldAN n => [0x3E, n]
  | .ccf => [0x3F]
  | .ldBB => [0x40]
  | .ldBC => [0x41]
  | .ldBD => [0x42]
  | .ldBE => [0x43]
  | .ldBH => [0x44]
  | .ldBL => [0x45]
  | .ldBMemHl => [0x46]
  | .ldBA => [0x47]
  | .ldCB => [0x48]
  | .ldCC => [0x49]
  | .ldCD => [0x4A]
  | .ldCE => [0x4B]
  | .ldCH => [0x4C]
  | .ldCL => [0x4D]
  | .ldCMemHl => [0x4E]
  | .ldCA => [0x4F]
  | .ldDB => [0x50]
  | .ldDC => [0x51]
  | .ldDD => [0x52]
  | .ldDE => [0x53]
  | .ldDH => [0x54]
  | .ldDL => [0x55]
  | .ldDMemHl => [0x56]
  | .ldDA => [0x57]
  | .ldEB => [0x58]
  | .ldEC => [0x59]
  | .ldED => [0x5A]
  | .ldEE => [0x5B]
  | .ldEH => [0x5C]
  | .ldEL => [0x5D]
  | .ldEMemHl => [0x5E]
  | .ldEA => [0x5F]
  | .ldHB => [0x60]
  | .ldHC => [0x61]
  | .ldHD => [0x62]
  | .ldHE => [0x63]
  | .ldHH => [0x64]
  | .ldHL => [0x65]
  | .ldHMemHl => [0x66]
  | .ldHA => [0x67]
  | .ldLB => [0x68]
  | .ldLC => [0x69]
  | .ldLD => [0x6A]
  | .ldLE => [0x6B]
  | .ldLH => [0x6C]
  | .ldLL => [0x6D]
  | .ldLMemHl => [0x6E]
  | .ldLA => [0x6F]
  | .ldMemHlB => [0x70]
  | .ldMemHlC => [0x71]
  | .ldMemHlD => [0x72]
  | .ldMemHlE => [0x73]
  | .ldMemHlH => [0x74]
  | .ldMemHlL => [0x75]
  | .halt => [0x76]
  | .ldMemHlA => [0x77]
  | .ldAB => [0x78]
  | .ldAC => [0x79]
  | .ldAD => [0x7A]
  | .ldAE => [0x7B]
  | .ldAH => [0x7C]
  | .ldAL => [0x7D]
  | .ldAMemHl => [0x7E]
  | .ldAA => [0x7F]
  | .addAB => [0x80]
  | .addAC => [0x81]
  | .addAD => [0x82]
  | .addAE => [0x83]
  | .addAH => [0x84]
  | .addAL => [0x85]
  | .addAMemHl => [0x86]
  | .addAA => [0x87]
  | .adcAB => [0x88]
  | .adcAC => [0x89]
  | .adcAD => [0x8A]
  | .adcAE => [0x8B]
  | .adcAH => [0x8C]
  | .adcAL => [0x8D]
  | .adcAMemHl => [0x8E]
  | .adcAA => [0x8F]
  | .subB => [0x90]
  | .subC => [0x91]
  | .subD => [0x92]
  | .subE => [0x93]
  | .subH => [0x94]
  | .subL => [0x95]
  | .subMemHl => [0x96]
  | .subA => [0x97]
  | .sbcAB => [0x98]
  | .sbcAC => [0x99]
  | .sbcAD => [0x9A]
  | .sbcAE => [0x9B]
  | .sbcAH => [0x9C]
  | .sbcAL => [0x9D]
  | .sbcAMemHl => [0x9E]
  | .sbcAA => [0x9F]
  | .andB => [0xA0]
  | .andC => [0xA1]
  | .andD => [0xA2]
  | .andE => [0xA3]
  | .andH => [0xA4]
  | .andL => [0xA5]
  | .andMemHl => [0xA6]
  | .andA => [0xA7]
  | .xorB => [0xA8]
  | .xorC => [0xA9]
  | .xorD => [0xAA]
  | .xorE => [0xAB]
  | .xorH => [0xAC]
  | .xorL => [0xAD]
  | .xorMemHl => [0xAE]
  | .xorA => [0xAF]
  | .orB => [0xB0]
  | .orC => [0xB1]
  | .orD => [0xB2]
  | .orE => [0xB3]
  | .orH => [0xB4]
  | .orL => [0xB5]
  | .orMemHl => [0xB6]
  | .orA => [0xB7]
  | .cpB => [0xB8]
  | .cpC => [0xB9]
  | .cpD => [0xBA]
  | .cpE => [0xBB]
  | .cpH => [0xBC]
  | .cpL => [0xBD]
  | .cpMemHl => [0xBE]
  | .cpA => [0xBF]
  | .retNz => [0xC0]
  | .popBc => [0xC1]
  | .jpNzNn nn => [0xC2, lo8 nn, hi8 nn]
  | .jpNn nn => [0xC3, lo8 nn, hi8 nn]
  | .callNzNn nn => [0xC4, lo8 nn, hi8 nn]
  | .pushBc => [0xC5]
  | .addAN n => [0xC6, n]
  | .rst00 => [0xC7]
  | .retZ => [0xC8]
  | .ret => [0xC9]
  | .jpZNn nn => [0xCA, lo8 nn, hi8 nn]
  | .prefixCb op2 => [0xCB, op2]
  | .callZNn nn => [0xCC, lo8 nn, hi8 nn]
  | .callNn nn => [0xCD, lo8 nn, hi8 nn]
  | .adcAN n => [0xCE, n]
  | .rst08 => [0xCF]
  | .retNc => [0xD0]
  | .popDe => [0xD1]
  | .jpNcNn nn => [0xD2, lo8 nn, hi8 nn]
  | .undefinedD3 => [0xD3]
  | .callNcNn nn => [0xD4, lo8 nn, hi8 nn]
  | .pushDe => [0xD5]
  | .subN n => [0xD6, n]
  | .rst10 => [0xD7]
  | .retC => [0xD8]
  | .reti => [0xD9]
  | .jpCNn nn => [0xDA, lo8 nn, hi8 nn]
  | .undefinedDB => [0xDB]
  | .callCNn nn => [0xDC, lo8 nn, hi8 nn]
  | .undefinedDD => [0xDD]
  | .sbcAN n => [0xDE, n]
  | .rst18 => [0xDF]
  | .ldhMemNA n => [0xE0, n]
  | .popHl => [0xE1]
  | .ldhMemCA => [0xE2]
  | .undefinedE3 => [0xE3]
  | .undefinedE4 => [0xE4]
  | .pushHl => [0xE5]
  | .andN n => [0xE6, n]
  | .rst20 => [0xE7]
  | .addSpE e => [0xE8, e]
  | .jpHl => [0xE9]
  | .ldMemNnA nn => [0xEA, lo8 nn, hi8 nn]
  | .undefinedEB => [0xEB]
  | .undefinedEC => [0xEC]
  | .undefinedED => [0xED]
  | .xorN n => [0xEE, n]
  | .rst28 => [0xEF]
  | .ldhAMemN n => [0xF0, n]
  | .popAf => [0xF1]
  | .ldhAMemC => [0xF2]
  | .di => [0xF3]
  | .undefinedF4 => [0xF4]
  | .pushAf => [0xF5]
  | .orN n => [0xF6, n]
  | .rst30 => [0xF7]
  | .ldHlSpE e => [0xF8, e]
  | .ldSpHl => [0xF9]
  | .ldAMemNn nn => [0xFA, lo8 nn, hi8 nn]
  | .ei => [0xFB]
  | .undefinedFC => [0xFC]
  | .undefinedFD => [0xFD]
  | .cpN n => [0xFE, n]
  | .rst38 => [0xFF]
  | .rlcB => [0xCB, 0x00]
  | .rlcC => [0xCB, 0x01]
  | .rlcD => [0xCB, 0x02]
  | .rlcE => [0xCB, 0x03]
  | .rlcH => [0xCB, 0x04]
  | .rlcL => [0xCB, 0x05]
  | .rlcMemHl => [0xCB, 0x06]
  | .rlcA => [0xCB, 0x07]
  | .rrcB => [0xCB, 0x08]
  | .rrcC => [0xCB, 0x09]
  | .rrcD => [0xCB, 0x0A]
  | .rrcE => [0xCB, 0x0B]
  | .rrcH => [0xCB, 0x0C]
  | .rrcL => [0xCB, 0x0D]
  | .rrcMemHl => [0xCB, 0x0E]
  | .rrcA => [0xCB, 0x0F]
  | .rlB => [0xCB, 0x10]
  | .rlC => [0xCB, 0x11]
  | .rlD => [0xCB, 0x12]
  | .rlE => [0xCB, 0x13]
  | .rlH => [0xCB, 0x14]
  | .rlL => [0xCB, 0x15]
  | .rlMemHl => [0xCB, 0x16]
  | .rlA => [0xCB, 0x17]
  | .rrB => [0xCB, 0x18]
  | .rrC => [0xCB, 0x19]
  | .rrD => [0xCB, 0x1A]
  | .rrE => [0xCB, 0x1B]
  | .rrH => [0xCB, 0x1C]
  | .rrL => [0xCB, 0x1D]
  | .rrMemHl => [0xCB, 0x1E]
  | .rrA => [0xCB, 0x1F]
  | .slaB => [0xCB, 0x20]
  | .slaC => [0xCB, 0x21]
  | .slaD => [0xCB, 0x22]
  | .slaE => [0xCB, 0x23]
  | .slaH => [0xCB, 0x24]
  | .slaL => [0xCB, 0x25]
  | .slaMemHl => [0xCB, 0x26]
  | .slaA => [0xCB, 0x27]
  | .sraB => [0xCB, 0x28]
  | .sraC => [0xCB, 0x29]
  | .sraD => [0xCB, 0x2A]
  | .sraE => [0xCB, 0x2B]
  | .sraH => [0xCB, 0x2C]
  | .sraL => [0xCB, 0x2D]
  | .sraMemHl => [0xCB, 0x2E]
  | .sraA => [0xCB, 0x2F]
  | .swapB => [0xCB, 0x30]
  | .swapC => [0xCB, 0x31]
  | .swapD => [0xCB, 0x32]
  | .swapE => [0xCB, 0x33]
  | .swapH => [0xCB, 0x34]
  | .swapL => [0xCB, 0x35]
  | .swapMemHl => [0xCB, 0x36]
  | .swapA => [0xCB, 0x37]
  | .srlB => [0xCB, 0x38]
  | .srlC => [0xCB, 0x39]
  | .srlD => [0xCB, 0x3A]
  | .srlE => [0xCB, 0x3B]
  | .srlH => [0xCB, 0x3C]
  | .srlL => [0xCB, 0x3D]
  | .srlMemHl => [0xCB, 0x3E]
  | .srlA => [0xCB, 0x3F]
  | .bit0B => [0xCB, 0x40]
  | .bit0C => [0xCB, 0x41]
  | .bit0D => [0xCB, 0x42]
  | .bit0E => [0xCB, 0x43]
  | .bit0H => [0xCB, 0x44]
  | .bit0L => [0xCB, 0x45]
  | .bit0MemHl => [0xCB, 0x46]
  | .bit0A => [0xCB, 0x47]
  | .bit1B => [0xCB, 0x48]
  | .bit1C => [0xCB, 0x49]
  | .bit1D => [0xCB, 0x4A]
  | .bit1E => [0xCB, 0x4B]
  | .bit1H => [0xCB, 0x4C]
  | .bit1L => [0xCB, 0x4D]
  | .bit1MemHl => [0xCB, 0x4E]
  | .bit1A => [0xCB, 0x4F]
  | .bit2B => [0xCB, 0x50]
  | .bit2C => [0xCB, 0x51]
  | .bit2D => [0xCB, 0x52]
  | .bit2E => [0xCB, 0x53]
  | .bit2H => [0xCB, 0x54]
  | .bit2L => [0xCB, 0x55]
  | .bit2MemHl => [0xCB, 0x56]
  | .bit2A => [0xCB, 0x57]
  | .bit3B => [0xCB, 0x58]
  | .bit3C => [0xCB, 0x59]
  | .bit3D => [0xCB, 0x5A]
  | .bit3E => [0xCB, 0x5B]
  | .bit3H => [0xCB, 0x5C]
  | .bit3L => [0xCB, 0x5D]
  | .bit3MemHl => [0xCB, 0x5E]
  | .bit3A => [0xCB, 0x5F]
  | .bit4B => [0xCB, 0x60]
  | .bit4C => [0xCB, 0x61]
  | .bit4D => [0xCB, 0x62]
  | .bit4E => [0xCB, 0x63]
  | .bit4H => [0xCB, 0x64]
  | .bit4L => [0xCB, 0x65]
  | .bit4MemHl => [0xCB, 0x66]
  | .bit4A => [0xCB, 0x67]
  | .bit5B => [0xCB, 0x68]
  | .bit5C => [0xCB, 0x69]
  | .bit5D => [0xCB, 0x6A]
  | .bit5E => [0xCB, 0x6B]
  | .bit5H => [0xCB, 0x6C]
  | .bit5L => [0xCB, 0x6D]
  | .bit5MemHl => [0xCB, 0x6E]
  | .bit5A => [0xCB, 0x6F]
  | .bit6B => [0xCB, 0x70]
  | .bit6C => [0xCB, 0x71]
  | .bit6D => [0xCB, 0x72]
  | .bit6E => [0xCB, 0x73]
  | .bit6H => [0xCB, 0x74]
  | .bit6L => [0xCB, 0x75]
  | .bit6MemHl => [0xCB, 0x76]
  | .bit6A => [0xCB, 0x77]
  | .bit7B => [0xCB, 0x78]
  | .bit7C => [0xCB, 0x79]
  | .bit7D => [0xCB, 0x7A]
  | .bit7E => [0xCB, 0x7B]
  | .bit7H => [0xCB, 0x7C]
  | .bit7L => [0xCB, 0x7D]
  | .bit7MemHl => [0xCB, 0x7E]
  | .bit7A => [0xCB, 0x7F]
  | .res0B => [0xCB, 0x80]
  | .res0C => [0xCB, 0x81]
  | .res0D => [0xCB, 0x82]
  | .res0E => [0xCB, 0x83]
  | .res0H => [0xCB, 0x84]
  | .res0L => [0xCB, 0x85]
  | .res0MemHl => [0xCB, 0x86]
  | .res0A => [0xCB, 0x87]
  | .res1B => [0xCB, 0x88]
  | .res1C => [0xCB, 0x89]
  | .res1D => [0xCB, 0x8A]
  | .res1E => [0xCB, 0x8B]
  | .res1H => [0xCB, 0x8C]
  | .res1L => [0xCB, 0x8D]
  | .res1MemHl => [0xCB, 0x8E]
  | .res1A => [0xCB, 0x8F]
  | .res2B => [0xCB, 0x90]
  | .res2C => [0xCB, 0x91]
  | .res2D => [0xCB, 0x92]
  | .res2E => [0xCB, 0x93]
  | .res2H => [0xCB, 0x94]
  | .res2L => [0xCB, 0x95]
  | .res2MemHl => [0xCB, 0x96]
  | .res2A => [0xCB, 0x97]
  | .res3B => [0xCB, 0x98]
  | .res3C => [0xCB, 0x99]
  | .res3D => [0xCB, 0x9A]
  | .res3E => [0xCB, 0x9B]
  | .res3H => [0xCB, 0x9C]
  | .res3L => [0xCB, 0x9D]
  | .res3MemHl => [0xCB, 0x9E]
  | .res3A => [0xCB, 0x9F]
  | .res4B => [0xCB, 0xA0]
  | .res4C => [0xCB, 0xA1]
  | .res4D => [0xCB, 0xA2]
  | .res4E => [0xCB, 0xA3]
  | .res4H => [0xCB, 0xA4]
  | .res4L => [0xCB, 0xA5]
  | .res4MemHl => [0xCB, 0xA6]
  | .res4A => [0xCB, 0xA7]
  | .res5B => [0xCB, 0xA8]
  | .res5C => [0xCB, 0xA9]
  | .res5D => [0xCB, 0xAA]
  | .res5E => [0xCB, 0xAB]
  | .res5H => [0xCB, 0xAC]
  | .res5L => [0xCB, 0xAD]
  | .res5MemHl => [0xCB, 0xAE]
  | .res5A => [0xCB, 0xAF]
  | .res6B => [0xCB, 0xB0]
  | .res6C => [0xCB, 0xB1]
  | .res6D => [0xCB, 0xB2]
  | .res6E => [0xCB, 0xB3]
  | .res6H => [0xCB, 0xB4]
  | .res6L => [0xCB, 0xB5]
  | .res6MemHl => [0xCB, 0xB6]
  | .res6A => [0xCB, 0xB7]
  | .res7B => [0xCB, 0xB8]
  | .res7C => [0xCB, 0xB9]
  | .res7D => [0xCB, 0xBA]
  | .res7E => [0xCB, 0xBB]
  | .res7H => [0xCB, 0xBC]
  | .res7L => [0xCB, 0xBD]
  | .res7MemHl => [0xCB, 0xBE]
  | .res7A => [0xCB, 0xBF]
  | .set0B => [0xCB, 0xC0]
  | .set0C => [0xCB, 0xC1]
  | .set0D => [0xCB, 0xC2]
  | .set0E => [0xCB, 0xC3]
  | .set0H => [0xCB, 0xC4]
  | .set0L => [0xCB, 0xC5]
  | .set0MemHl => [0xCB, 0xC6]
  | .set0A => [0xCB, 0xC7]
  | .set1B => [0xCB, 0xC8]
  | .set1C => [0xCB, 0xC9]
  | .set1D => [0xCB, 0xCA]
  | .set1E => [0xCB, 0xCB]
  | .set1H => [0xCB, 0xCC]
  | .set1L => [0xCB, 0xCD]
  | .set1MemHl => [0xCB, 0xCE]
  | .set1A => [0xCB, 0xCF]
  | .set2B => [0xCB, 0xD0]
  | .set2C => [0xCB, 0xD1]
  | .set2D => [0xCB, 0xD2]
  | .set2E => [0xCB, 0xD3]
  | .set2H => [0xCB, 0xD4]
  | .set2L => [0xCB, 0xD5]
  | .set2MemHl => [0xCB, 0xD6]
  | .set2A => [0xCB, 0xD7]
  | .set3B => [0xCB, 0xD8]
  | .set3C => [0xCB, 0xD9]
  | .set3D => [0xCB, 0xDA]
  | .set3E => [0xCB, 0xDB]
  | .set3H => [0xCB, 0xDC]
  | .set3L => [0xCB, 0xDD]
  | .set3MemHl => [0xCB, 0xDE]
  | .set3A => [0xCB, 0xDF]
  | .set4B => [0xCB, 0xE0]
  | .set4C => [0xCB, 0xE1]
  | .set4D => [0xCB, 0xE2]
  | .set4E => [0xCB, 0xE3]
  | .set4H => [0xCB, 0xE4]
  | .set4L => [0xCB, 0xE5]
  | .set4MemHl => [0xCB, 0xE6]
  | .set4A => [0xCB, 0xE7]
  | .set5B => [0xCB, 0xE8]
  | .set5C => [0xCB, 0xE9]
  | .set5D => [0xCB, 0xEA]
  | .set5E => [0xCB, 0xEB]
  | .set5H => [0xCB, 0xEC]
  | .set5L => [0xCB, 0xED]
  | .set5MemHl => [0xCB, 0xEE]
  | .set5A => [0xCB, 0xEF]
  | .set6B => [0xCB, 0xF0]
  | .set6C => [0xCB, 0xF1]
  | .set6D => [0xCB, 0xF2]
  | .set6E => [0xCB, 0xF3]
  | .set6H => [0xCB, 0xF4]
  | .set6L => [0xCB, 0xF5]
  | .set6MemHl => [0xCB, 0xF6]
  | .set6A => [0xCB, 0xF7]
  | .set7B => [0xCB, 0xF8]
  | .set7C => [0xCB, 0xF9]
  | .set7D => [0xCB, 0xFA]
  | .set7E => [0xCB, 0xFB]
  | .set7H => [0xCB, 0xFC]
  | .set7L => [0xCB, 0xFD]
  | .set7MemHl => [0xCB, 0xFE]
  | .set7A => [0xCB, 0xFF]

/-- The three bytes, in fetch order, of an instruction whose bits are `w` as spec/opcode_table.json numbers them, zeros above.
A row of the table over two opcode bytes has its first byte, the prefix 0xCB, MOST significant (R139); any other word is laid
out first byte least significant. -/
def tableBytes (nbits w : Nat) : Byte × Byte × Byte :=
  let byte (k : Nat) : Byte := if 8 * k < nbits then BitVec.ofNat 8 (w >>> (8 * k)) else 0
  if nbits = 16 ∧ w / 256 = 0xCB then (0xCB, BitVec.ofNat 8 w, 0) else (byte 0, byte 1, byte 2)

/-- The instruction the decoder reads from a word of the opcode table. -/
def decodeTableWord (nbits w : Nat) : Option Instr :=
  match tableBytes nbits w with
  | (b0, b1, b2) =>
    match decode [b0, b1, b2] with
    | .ok (i, _) => some i
    | .error _ => none

end Sys2Proof
end

