-- ==== Sys2Proof/Machine/Flags.lean ====
section
/-! DEFINITION. The flags of F (R23) and every flag computation of the instruction rules: the 8-bit ALU (R200), increments
(R225, R227), 16-bit sums (R186, R240), rotates and shifts (R251 to R254, R301 to R316), bit test (R317), decimal adjust (R255). -/

namespace Sys2Proof.Machine

/-- The four flags: Z, N, Hf, Cf (R23). -/
structure Flags where
  z : Bool
  n : Bool
  h : Bool
  c : Bool
  deriving DecidableEq, Repr

/-- F as a byte: F[7] = Z, F[6] = N, F[5] = Hf, F[4] = Cf, F[3:0] = 0 (R23). -/
def Flags.toByte (f : Flags) : Byte :=
  BitVec.ofBool f.z ++ BitVec.ofBool f.n ++ BitVec.ofBool f.h ++ BitVec.ofBool f.c ++ 0#4

/-- The flags that a byte holds (R23). -/
def Flags.ofByte (b : Byte) : Flags := { z := b.getLsbD 7, n := b.getLsbD 6, h := b.getLsbD 5, c := b.getLsbD 4 }

/-- The ALU operations of R123, numbered 0 to 7 in this order. -/
inductive AluOp where
  | add | adc | sub | sbc | and | xor | or | cp
  deriving DecidableEq, Repr

/-- `add8(a, b, c)` (R200). -/
def add8 (a b : Byte) (c : Bool) : Byte × Flags :=
  let s := a.toNat + b.toNat + c.toNat
  let r := BitVec.ofNat 8 s
  (r, { z := r == 0, n := false, h := decide (0x0F < a.toNat % 16 + b.toNat % 16 + c.toNat), c := decide (0xFF < s) })

/-- `sub8(a, b, c)` (R200): the half-carry and carry are the borrows (90_conflicts.md C1). -/
def sub8 (a b : Byte) (c : Bool) : Byte × Flags :=
  let d : Int := (a.toNat : Int) - b.toNat - c.toNat
  let r := BitVec.ofInt 8 d
  (r, { z := r == 0, n := true, h := decide (((a.toNat % 16 : Nat) : Int) - (b.toNat % 16 : Nat) - c.toNat < 0), c := decide (d < 0) })

/-- `and8`, `xor8`, `or8` (R200): the result and the half-carry that each sets. -/
def logic8 (r : Byte) (half : Bool) : Byte × Flags := (r, { z := r == 0, n := false, h := half, c := false })

/-- An ALU operation on A and an operand, with the carry flag before the instruction (R201 to R224): the result and the flags.
CP is SUB; its result is discarded by the instruction. -/
def alu8 (op : AluOp) (a b : Byte) (carry : Bool) : Byte × Flags :=
  match op with
  | .add => add8 a b false
  | .adc => add8 a b carry
  | .sub => sub8 a b false
  | .sbc => sub8 a b carry
  | .and => logic8 (a &&& b) true
  | .xor => logic8 (a ^^^ b) false
  | .or => logic8 (a ||| b) false
  | .cp => sub8 a b false

/-- INC (R225): Cf is kept. -/
def inc8 (v : Byte) (f : Flags) : Byte × Flags :=
  (v + 1, { f with z := v + 1 == 0, n := false, h := v &&& 0x0F == 0x0F })

/-- DEC (R227): Cf is kept. -/
def dec8 (v : Byte) (f : Flags) : Byte × Flags :=
  (v - 1, { f with z := v - 1 == 0, n := true, h := v &&& 0x0F == 0x00 })

/-- ADD HL,rr (R240): Z is kept. -/
def add16 (a b : Word) (f : Flags) : Word × Flags :=
  (a + b,
   { f with
     n := false
     h := decide (0x0FFF < a.toNat % 0x1000 + b.toNat % 0x1000)
     c := decide (0xFFFF < a.toNat + b.toNat) })

/-- SP plus a signed displacement (R186, R243): the flags are the carries of the unsigned addition of the low byte of SP and
the raw byte. -/
def addSpOffset (sp : Word) (e : Byte) : Word × Flags :=
  (sp + e.signExtend 16,
   { z := false
     n := false
     h := decide (0x0F < sp.toNat % 16 + e.toNat % 16)
     c := decide (0xFF < sp.toNat % 256 + e.toNat) })

/-- The rotates, shifts and SWAP, numbered 0 to 7 in this order (R129). -/
inductive ShiftOp where
  | rlc | rrc | rl | rr | sla | sra | swap | srl
  deriving DecidableEq, Repr

/-- The value a rotate, shift or SWAP writes and the carry it leaves, from the operand and the old carry (R301 to R316). -/
def shift8 (op : ShiftOp) (v : Byte) (carry : Bool) : Byte × Bool :=
  match op with
  | .rlc => (v.extractLsb' 0 7 ++ BitVec.ofBool (v.getLsbD 7), v.getLsbD 7)
  | .rrc => (BitVec.ofBool (v.getLsbD 0) ++ v.extractLsb' 1 7, v.getLsbD 0)
  | .rl => (v.extractLsb' 0 7 ++ BitVec.ofBool carry, v.getLsbD 7)
  | .rr => (BitVec.ofBool carry ++ v.extractLsb' 1 7, v.getLsbD 0)
  | .sla => (v <<< 1, v.getLsbD 7)
  | .sra => (v.sshiftRight 1, v.getLsbD 0)
  | .swap => (v.extractLsb' 0 4 ++ v.extractLsb' 4 4, false)
  | .srl => (v >>> 1, v.getLsbD 0)

/-- The flags of a prefixed rotate, shift or SWAP: Z from the result (R300). -/
def shiftFlags (r : Byte) (carry : Bool) : Flags := { z := r == 0, n := false, h := false, c := carry }

/-- The flags of an accumulator rotate: Z is 0 always (R251 to R254). -/
def accRotateFlags (carry : Bool) : Flags := { z := false, n := false, h := false, c := carry }

/-- BIT b (R317): Z is the complement of the bit, Cf is kept. -/
def bitFlags (b : Fin 8) (v : Byte) (f : Flags) : Flags := { f with z := !v.getLsbD b.val, n := false, h := true }

/-- The adjustment of DAA and the carry it leaves (R255). -/
def daaAdjust (a : Byte) (f : Flags) : Byte × Bool :=
  if f.n then ((if f.h then 0x06 else 0x00) ||| (if f.c then 0x60 else 0x00), f.c)
  else
    ((if f.h ∨ 0x09 < (a &&& 0x0F).toNat then 0x06 else 0x00) ||| (if f.c ∨ 0x99 < a.toNat then 0x60 else 0x00),
     f.c || decide (0x99 < a.toNat))

/-- DAA (R255). -/
def daa8 (a : Byte) (f : Flags) : Byte × Flags :=
  let adj := daaAdjust a f
  let r := if f.n then a - adj.1 else a + adj.1
  (r, { f with z := r == 0, h := false, c := adj.2 })

end Sys2Proof.Machine
end

