-- ==== Sys2Proof/Machine/Operands.lean ====
section
/-! DEFINITION. The operand forms of spec/30_encoding.md section 3: registers (R124), register pairs (R21, R125), the byte at
HL (R124), the high page (R126), conditions (R127, R270), and the flags as part of the state (R23). -/

namespace Sys2Proof.Machine

/-- The registers of the 3-bit field; field value 6 is the byte at HL, which has instructions of its own (R124). -/
inductive Reg where
  | b | c | d | e | h | l | a
  deriving DecidableEq, Repr

/-- The table `rp` (R125). -/
inductive Pair where
  | bc | de | hl | sp
  deriving DecidableEq, Repr

/-- The table `rp2` (R125). -/
inductive StackPair where
  | bc | de | hl | af
  deriving DecidableEq, Repr

/-- The conditions of R127. -/
inductive Cond where
  | nz | z | nc | c
  deriving DecidableEq, Repr

/-- Read a register. -/
def Processor.reg (p : Processor) : Reg → Byte
  | .b => p.b
  | .c => p.c
  | .d => p.d
  | .e => p.e
  | .h => p.h
  | .l => p.l
  | .a => p.a

/-- Write a register. -/
def Processor.setReg (p : Processor) (r : Reg) (v : Byte) : Processor :=
  match r with
  | .b => { p with b := v }
  | .c => { p with c := v }
  | .d => { p with d := v }
  | .e => { p with e := v }
  | .h => { p with h := v }
  | .l => { p with l := v }
  | .a => { p with a := v }

/-- A pair as a word: the first letter is the high byte (R21). -/
def Processor.pair (p : Processor) : Pair → Word
  | .bc => joinBytes p.b p.c
  | .de => joinBytes p.d p.e
  | .hl => joinBytes p.h p.l
  | .sp => p.sp

/-- Write a pair (R21). -/
def Processor.setPair (p : Processor) (r : Pair) (w : Word) : Processor :=
  match r with
  | .bc => { p with b := hi8 w, c := lo8 w }
  | .de => { p with d := hi8 w, e := lo8 w }
  | .hl => { p with h := hi8 w, l := lo8 w }
  | .sp => { p with sp := w }

/-- The word that PUSH pushes (R184). -/
def Processor.stackPair (p : Processor) : StackPair → Word
  | .bc => p.pair .bc
  | .de => p.pair .de
  | .hl => p.pair .hl
  | .af => joinBytes p.a p.f

/-- What POP writes: POP AF masks the popped low byte with 0xF0 (R185). -/
def Processor.setStackPair (p : Processor) (r : StackPair) (w : Word) : Processor :=
  match r with
  | .bc => p.setPair .bc w
  | .de => p.setPair .de w
  | .hl => p.setPair .hl w
  | .af => { p with a := hi8 w, f := lo8 w &&& 0xF0 }

/-- The flags of F (R23). -/
def Processor.flags (p : Processor) : Flags := Flags.ofByte p.f

/-- Write the flags; the low nibble of F is 0 (R23). -/
def Processor.setFlags (p : Processor) (f : Flags) : Processor := { p with f := f.toByte }

/-- `cond(cc)` (R270). -/
def Cond.holds (cc : Cond) (f : Flags) : Bool :=
  match cc with
  | .nz => !f.z
  | .z => f.z
  | .nc => !f.c
  | .c => f.c

/-- The address HL of the operand (HL). -/
def State.hl (s : State) : Word := s.cpu.pair .hl

/-- The high-page address `0xFF00 | n` (R126). -/
def highPage (n : Byte) : Word := joinBytes 0xFF n

/-- `sext_8(e)` as a word, so that adding it adds the signed displacement modulo 65536 (R11). -/
def sext8 (e : Byte) : Word := e.signExtend 16

/-- The state with a register written. -/
def State.setReg (s : State) (r : Reg) (v : Byte) : State := { s with cpu := s.cpu.setReg r v }

/-- The state with a pair written. -/
def State.setPair (s : State) (r : Pair) (w : Word) : State := { s with cpu := s.cpu.setPair r w }

/-- The state with the flags written. -/
def State.setFlags (s : State) (f : Flags) : State := { s with cpu := s.cpu.setFlags f }

/-- The state with PC written. -/
def State.setPc (s : State) (pc : Word) : State := { s with cpu := { s.cpu with pc := pc } }

/-- The state with SP written. -/
def State.setSp (s : State) (sp : Word) : State := { s with cpu := { s.cpu with sp := sp } }

end Sys2Proof.Machine
end

