-- ==== Sys2Proof/Machine/Ops.lean ====
section
/-! DEFINITION. The named operations over the state that the instruction meanings share: completing with a cycle count (R12),
the stack (R180), the fault (R330), taking an interrupt (R340, R341) and returning from one (R280, R345). An instruction's
meaning starts from the state after the fetch of all its bytes, so that PC is the address of the next instruction (R26). -/

namespace Sys2Proof.Machine

/-- `cycles <- n`: the count that `executeStep` returns (R12, R583). -/
def State.withCycles (s : State) (n : Nat) : State := { s with out := { s.out with cycles := n } }

/-- An instruction completes with the state `s` and the cost `n`. -/
def complete (s : State) (n : Nat) : Result := .next (s.withCycles n)

/-- `push16(w)` (R180): the high byte first, each write through the bus. -/
def push16 (s : State) (w : Word) : State :=
  let s := s.setSp (s.cpu.sp - 1)
  let s := memWrite s s.cpu.sp (hi8 w)
  let s := s.setSp (s.cpu.sp - 1)
  memWrite s s.cpu.sp (lo8 w)

/-- The word that `pop16()` gives (R180). -/
def popWord (s : State) : Word := joinBytes (memRead s (s.cpu.sp + 1)) (memRead s s.cpu.sp)

/-- The state after `pop16()`: SP is 2 higher (R180). -/
def popSp (s : State) : State := s.setSp (s.cpu.sp + 2)

/-- `raise UnimplementedOpcode(op, addr)` (R330) from an instruction of `len` fetched bytes: `addr` is the address of the
opcode byte, and in the state in which the run ends PC is `addr + 1`. -/
def raiseUnimplemented (op : Byte) (len : Word) (s : State) : Result :=
  .fault (.unimplementedOpcode op (s.cpu.pc - len) (s.setPc (s.cpu.pc - len + 1)))

/-- The vector of an interrupt source (R338). -/
def interruptVector (b : Fin 5) : Word := 0x0040 + 8 * BitVec.ofNat 16 b.val

/-- TAKING AN INTERRUPT, the one exception entry of this machine (R340, R341): IME is cleared, the serviced bit of IF is
cleared, PC is pushed, PC is set to the vector, and the cost is 20. -/
def takeInterrupt (b : Fin 5) (s : State) : State :=
  let s := { s with cpu := { s.cpu with ime := false } }
  let s := s.setMem 0xFF0F (s.mem.read 0xFF0F &&& ~~~(1#8 <<< b.val))
  let s := push16 s s.cpu.pc
  (s.setPc (interruptVector b)).withCycles 20

/-- Returning from an interrupt (R280, R345): PC is popped and IME is set; nothing else was saved. -/
def returnFromInterrupt (s : State) : State :=
  let t := (popSp s).setPc (popWord s)
  { t with cpu := { t.cpu with ime := true } }

end Sys2Proof.Machine
end

