-- ==== Sys2Proof/Machine/Alu16.lean ====
section
/-! DEFINITION. The 16-bit arithmetic (spec/43_alu16.md R240 to R243). -/

namespace Sys2Proof.Machine

/-- A pair is added to HL (R240). -/
def addHl (p : Pair) (s : State) : Result :=
  let r := add16 s.hl (s.cpu.pair p) s.cpu.flags
  complete ((s.setPair .hl r.1).setFlags r.2) 8

/-- A pair moves by one; no flag changes (R241, R242). -/
def movePair (p : Pair) (delta : Word) (s : State) : Result := complete (s.setPair p (s.cpu.pair p + delta)) 8

/-- A signed displacement is added to SP (R243). -/
def addSp (e : Byte) (s : State) : Result :=
  let r := addSpOffset s.cpu.sp e
  complete ((s.setSp r.1).setFlags r.2) 16

/-- INC BC (R241). -/
def execIncBc (s : State) : Result := movePair .bc 1 s

/-- ADD HL,BC (R240). -/
def execAddHlBc (s : State) : Result := addHl .bc s

/-- DEC BC (R242). -/
def execDecBc (s : State) : Result := movePair .bc (-1) s

/-- INC DE (R241). -/
def execIncDe (s : State) : Result := movePair .de 1 s

/-- ADD HL,DE (R240). -/
def execAddHlDe (s : State) : Result := addHl .de s

/-- DEC DE (R242). -/
def execDecDe (s : State) : Result := movePair .de (-1) s

/-- INC HL (R241). -/
def execIncHl (s : State) : Result := movePair .hl 1 s

/-- ADD HL,HL (R240). -/
def execAddHlHl (s : State) : Result := addHl .hl s

/-- DEC HL (R242). -/
def execDecHl (s : State) : Result := movePair .hl (-1) s

/-- INC SP (R241). -/
def execIncSp (s : State) : Result := movePair .sp 1 s

/-- ADD HL,SP (R240). -/
def execAddHlSp (s : State) : Result := addHl .sp s

/-- DEC SP (R242). -/
def execDecSp (s : State) : Result := movePair .sp (-1) s

/-- ADD SP,e (R243). -/
def execAddSpE (e : Byte) (s : State) : Result := addSp e s

end Sys2Proof.Machine
end

