-- ==== Sys2Proof/Machine/Alu8.lean ====
section
/-! DEFINITION. The 8-bit arithmetic and logic (spec/42_alu8.md R201 to R228). -/

namespace Sys2Proof.Machine

/-- An operation on A and an operand whose result goes to A (R201 to R221). -/
def aluWith (op : AluOp) (v : Byte) (cost : Nat) (s : State) : Result :=
  let r := alu8 op s.cpu.a v s.cpu.flags.c
  complete ((s.setReg .a r.1).setFlags r.2) cost

/-- CP: the flags of the subtraction, the result discarded (R222 to R224). -/
def compareWith (v : Byte) (cost : Nat) (s : State) : Result :=
  complete (s.setFlags (alu8 .cp s.cpu.a v s.cpu.flags.c).2) cost

/-- INC of a register (R225). -/
def incrementReg (x : Reg) (s : State) : Result :=
  let r := inc8 (s.cpu.reg x) s.cpu.flags
  complete ((s.setReg x r.1).setFlags r.2) 4

/-- INC of the byte at HL: one read, one write (R226). -/
def incrementMem (s : State) : Result :=
  let r := inc8 (memRead s s.hl) s.cpu.flags
  complete ((memWrite s s.hl r.1).setFlags r.2) 12

/-- DEC of a register (R227). -/
def decrementReg (x : Reg) (s : State) : Result :=
  let r := dec8 (s.cpu.reg x) s.cpu.flags
  complete ((s.setReg x r.1).setFlags r.2) 4

/-- DEC of the byte at HL: one read, one write (R228). -/
def decrementMem (s : State) : Result :=
  let r := dec8 (memRead s s.hl) s.cpu.flags
  complete ((memWrite s s.hl r.1).setFlags r.2) 12

/-- INC B (R225). -/
def execIncB (s : State) : Result := incrementReg .b s

/-- DEC B (R227). -/
def execDecB (s : State) : Result := decrementReg .b s

/-- INC C (R225). -/
def execIncC (s : State) : Result := incrementReg .c s

/-- DEC C (R227). -/
def execDecC (s : State) : Result := decrementReg .c s

/-- INC D (R225). -/
def execIncD (s : State) : Result := incrementReg .d s

/-- DEC D (R227). -/
def execDecD (s : State) : Result := decrementReg .d s

/-- INC E (R225). -/
def execIncE (s : State) : Result := incrementReg .e s

/-- DEC E (R227). -/
def execDecE (s : State) : Result := decrementReg .e s

/-- INC H (R225). -/
def execIncH (s : State) : Result := incrementReg .h s

/-- DEC H (R227). -/
def execDecH (s : State) : Result := decrementReg .h s

/-- INC L (R225). -/
def execIncL (s : State) : Result := incrementReg .l s

/-- DEC L (R227). -/
def execDecL (s : State) : Result := decrementReg .l s

/-- INC (HL) (R226). -/
def execIncMemHl (s : State) : Result := incrementMem s

/-- DEC (HL) (R228). -/
def execDecMemHl (s : State) : Result := decrementMem s

/-- INC A (R225). -/
def execIncA (s : State) : Result := incrementReg .a s

/-- DEC A (R227). -/
def execDecA (s : State) : Result := decrementReg .a s

/-- ADD A,B (R201). -/
def execAddAB (s : State) : Result := aluWith .add (s.cpu.reg .b) 4 s

/-- ADD A,C (R201). -/
def execAddAC (s : State) : Result := aluWith .add (s.cpu.reg .c) 4 s

/-- ADD A,D (R201). -/
def execAddAD (s : State) : Result := aluWith .add (s.cpu.reg .d) 4 s

/-- ADD A,E (R201). -/
def execAddAE (s : State) : Result := aluWith .add (s.cpu.reg .e) 4 s

/-- ADD A,H (R201). -/
def execAddAH (s : State) : Result := aluWith .add (s.cpu.reg .h) 4 s

/-- ADD A,L (R201). -/
def execAddAL (s : State) : Result := aluWith .add (s.cpu.reg .l) 4 s

/-- ADD A,(HL) (R202). -/
def execAddAMemHl (s : State) : Result := aluWith .add (memRead s s.hl) 8 s

/-- ADD A,A (R201). -/
def execAddAA (s : State) : Result := aluWith .add (s.cpu.reg .a) 4 s

/-- ADC A,B (R204). -/
def execAdcAB (s : State) : Result := aluWith .adc (s.cpu.reg .b) 4 s

/-- ADC A,C (R204). -/
def execAdcAC (s : State) : Result := aluWith .adc (s.cpu.reg .c) 4 s

/-- ADC A,D (R204). -/
def execAdcAD (s : State) : Result := aluWith .adc (s.cpu.reg .d) 4 s

/-- ADC A,E (R204). -/
def execAdcAE (s : State) : Result := aluWith .adc (s.cpu.reg .e) 4 s

/-- ADC A,H (R204). -/
def execAdcAH (s : State) : Result := aluWith .adc (s.cpu.reg .h) 4 s

/-- ADC A,L (R204). -/
def execAdcAL (s : State) : Result := aluWith .adc (s.cpu.reg .l) 4 s

/-- ADC A,(HL) (R205). -/
def execAdcAMemHl (s : State) : Result := aluWith .adc (memRead s s.hl) 8 s

/-- ADC A,A (R204). -/
def execAdcAA (s : State) : Result := aluWith .adc (s.cpu.reg .a) 4 s

/-- SUB B (R207). -/
def execSubB (s : State) : Result := aluWith .sub (s.cpu.reg .b) 4 s

/-- SUB C (R207). -/
def execSubC (s : State) : Result := aluWith .sub (s.cpu.reg .c) 4 s

/-- SUB D (R207). -/
def execSubD (s : State) : Result := aluWith .sub (s.cpu.reg .d) 4 s

/-- SUB E (R207). -/
def execSubE (s : State) : Result := aluWith .sub (s.cpu.reg .e) 4 s

/-- SUB H (R207). -/
def execSubH (s : State) : Result := aluWith .sub (s.cpu.reg .h) 4 s

/-- SUB L (R207). -/
def execSubL (s : State) : Result := aluWith .sub (s.cpu.reg .l) 4 s

/-- SUB (HL) (R208). -/
def execSubMemHl (s : State) : Result := aluWith .sub (memRead s s.hl) 8 s

/-- SUB A (R207). -/
def execSubA (s : State) : Result := aluWith .sub (s.cpu.reg .a) 4 s

/-- SBC A,B (R210). -/
def execSbcAB (s : State) : Result := aluWith .sbc (s.cpu.reg .b) 4 s

/-- SBC A,C (R210). -/
def execSbcAC (s : State) : Result := aluWith .sbc (s.cpu.reg .c) 4 s

/-- SBC A,D (R210). -/
def execSbcAD (s : State) : Result := aluWith .sbc (s.cpu.reg .d) 4 s

/-- SBC A,E (R210). -/
def execSbcAE (s : State) : Result := aluWith .sbc (s.cpu.reg .e) 4 s

/-- SBC A,H (R210). -/
def execSbcAH (s : State) : Result := aluWith .sbc (s.cpu.reg .h) 4 s

/-- SBC A,L (R210). -/
def execSbcAL (s : State) : Result := aluWith .sbc (s.cpu.reg .l) 4 s

/-- SBC A,(HL) (R211). -/
def execSbcAMemHl (s : State) : Result := aluWith .sbc (memRead s s.hl) 8 s

/-- SBC A,A (R210). -/
def execSbcAA (s : State) : Result := aluWith .sbc (s.cpu.reg .a) 4 s

/-- AND B (R213). -/
def execAndB (s : State) : Result := aluWith .and (s.cpu.reg .b) 4 s

/-- AND C (R213). -/
def execAndC (s : State) : Result := aluWith .and (s.cpu.reg .c) 4 s

/-- AND D (R213). -/
def execAndD (s : State) : Result := aluWith .and (s.cpu.reg .d) 4 s

/-- AND E (R213). -/
def execAndE (s : State) : Result := aluWith .and (s.cpu.reg .e) 4 s

/-- AND H (R213). -/
def execAndH (s : State) : Result := aluWith .and (s.cpu.reg .h) 4 s

/-- AND L (R213). -/
def execAndL (s : State) : Result := aluWith .and (s.cpu.reg .l) 4 s

/-- AND (HL) (R214). -/
def execAndMemHl (s : State) : Result := aluWith .and (memRead s s.hl) 8 s

/-- AND A (R213). -/
def execAndA (s : State) : Result := aluWith .and (s.cpu.reg .a) 4 s

/-- XOR B (R216). -/
def execXorB (s : State) : Result := aluWith .xor (s.cpu.reg .b) 4 s

/-- XOR C (R216). -/
def execXorC (s : State) : Result := aluWith .xor (s.cpu.reg .c) 4 s

/-- XOR D (R216). -/
def execXorD (s : State) : Result := aluWith .xor (s.cpu.reg .d) 4 s

/-- XOR E (R216). -/
def execXorE (s : State) : Result := aluWith .xor (s.cpu.reg .e) 4 s

/-- XOR H (R216). -/
def execXorH (s : State) : Result := aluWith .xor (s.cpu.reg .h) 4 s

/-- XOR L (R216). -/
def execXorL (s : State) : Result := aluWith .xor (s.cpu.reg .l) 4 s

/-- XOR (HL) (R217). -/
def execXorMemHl (s : State) : Result := aluWith .xor (memRead s s.hl) 8 s

/-- XOR A (R216). -/
def execXorA (s : State) : Result := aluWith .xor (s.cpu.reg .a) 4 s

/-- OR B (R219). -/
def execOrB (s : State) : Result := aluWith .or (s.cpu.reg .b) 4 s

/-- OR C (R219). -/
def execOrC (s : State) : Result := aluWith .or (s.cpu.reg .c) 4 s

/-- OR D (R219). -/
def execOrD (s : State) : Result := aluWith .or (s.cpu.reg .d) 4 s

/-- OR E (R219). -/
def execOrE (s : State) : Result := aluWith .or (s.cpu.reg .e) 4 s

/-- OR H (R219). -/
def execOrH (s : State) : Result := aluWith .or (s.cpu.reg .h) 4 s

/-- OR L (R219). -/
def execOrL (s : State) : Result := aluWith .or (s.cpu.reg .l) 4 s

/-- OR (HL) (R220). -/
def execOrMemHl (s : State) : Result := aluWith .or (memRead s s.hl) 8 s

/-- OR A (R219). -/
def execOrA (s : State) : Result := aluWith .or (s.cpu.reg .a) 4 s

/-- CP B (R222). -/
def execCpB (s : State) : Result := compareWith (s.cpu.reg .b) 4 s

/-- CP C (R222). -/
def execCpC (s : State) : Result := compareWith (s.cpu.reg .c) 4 s

/-- CP D (R222). -/
def execCpD (s : State) : Result := compareWith (s.cpu.reg .d) 4 s

/-- CP E (R222). -/
def execCpE (s : State) : Result := compareWith (s.cpu.reg .e) 4 s

/-- CP H (R222). -/
def execCpH (s : State) : Result := compareWith (s.cpu.reg .h) 4 s

/-- CP L (R222). -/
def execCpL (s : State) : Result := compareWith (s.cpu.reg .l) 4 s

/-- CP (HL) (R223). -/
def execCpMemHl (s : State) : Result := compareWith (memRead s s.hl) 8 s

/-- CP A (R222). -/
def execCpA (s : State) : Result := compareWith (s.cpu.reg .a) 4 s

/-- ADD A,n (R203). -/
def execAddAN (n : Byte) (s : State) : Result := aluWith .add n 8 s

/-- ADC A,n (R206). -/
def execAdcAN (n : Byte) (s : State) : Result := aluWith .adc n 8 s

/-- SUB n (R209). -/
def execSubN (n : Byte) (s : State) : Result := aluWith .sub n 8 s

/-- SBC A,n (R212). -/
def execSbcAN (n : Byte) (s : State) : Result := aluWith .sbc n 8 s

/-- AND n (R215). -/
def execAndN (n : Byte) (s : State) : Result := aluWith .and n 8 s

/-- XOR n (R218). -/
def execXorN (n : Byte) (s : State) : Result := aluWith .xor n 8 s

/-- OR n (R221). -/
def execOrN (n : Byte) (s : State) : Result := aluWith .or n 8 s

/-- CP n (R224). -/
def execCpN (n : Byte) (s : State) : Result := compareWith n 8 s

end Sys2Proof.Machine
end

