-- ==== Sys2Proof/Machine/Control.lean ====
section
/-! DEFINITION. Control transfer (spec/45_control.md R271 to R281). PC is already the address of the next instruction. -/

namespace Sys2Proof.Machine

/-- PC receives a target (R271 to R275). -/
def jumpTo (target : Word) (cost : Nat) (s : State) : Result := complete (s.setPc target) cost

/-- The address of the next instruction is pushed and PC receives a target (R276, R277, R281). -/
def callTo (target : Word) (cost : Nat) (s : State) : Result := complete ((push16 s s.cpu.pc).setPc target) cost

/-- PC is popped (R278, R279). -/
def returnPopped (cost : Nat) (s : State) : Result := complete ((popSp s).setPc (popWord s)) cost

/-- JR e (R274). -/
def execJrE (e : Byte) (s : State) : Result := jumpTo (s.cpu.pc + sext8 e) 12 s

/-- JR NZ,e (R275). -/
def execJrNzE (e : Byte) (s : State) : Result :=
  if Cond.nz.holds s.cpu.flags then jumpTo (s.cpu.pc + sext8 e) 12 s else complete s 8

/-- JR Z,e (R275). -/
def execJrZE (e : Byte) (s : State) : Result :=
  if Cond.z.holds s.cpu.flags then jumpTo (s.cpu.pc + sext8 e) 12 s else complete s 8

/-- JR NC,e (R275). -/
def execJrNcE (e : Byte) (s : State) : Result :=
  if Cond.nc.holds s.cpu.flags then jumpTo (s.cpu.pc + sext8 e) 12 s else complete s 8

/-- JR C,e (R275). -/
def execJrCE (e : Byte) (s : State) : Result :=
  if Cond.c.holds s.cpu.flags then jumpTo (s.cpu.pc + sext8 e) 12 s else complete s 8

/-- RET NZ (R279). -/
def execRetNz (s : State) : Result := if Cond.nz.holds s.cpu.flags then returnPopped 20 s else complete s 8

/-- JP NZ,nn (R272). -/
def execJpNzNn (nn : Word) (s : State) : Result := if Cond.nz.holds s.cpu.flags then jumpTo nn 16 s else complete s 12

/-- JP nn (R271). -/
def execJpNn (nn : Word) (s : State) : Result := jumpTo nn 16 s

/-- CALL NZ,nn (R277). -/
def execCallNzNn (nn : Word) (s : State) : Result := if Cond.nz.holds s.cpu.flags then callTo nn 24 s else complete s 12

/-- RST 0x00 (R281). -/
def execRst00 (s : State) : Result := callTo 0x0000 16 s

/-- RET Z (R279). -/
def execRetZ (s : State) : Result := if Cond.z.holds s.cpu.flags then returnPopped 20 s else complete s 8

/-- RET (R278). -/
def execRet (s : State) : Result := returnPopped 16 s

/-- JP Z,nn (R272). -/
def execJpZNn (nn : Word) (s : State) : Result := if Cond.z.holds s.cpu.flags then jumpTo nn 16 s else complete s 12

/-- CALL Z,nn (R277). -/
def execCallZNn (nn : Word) (s : State) : Result := if Cond.z.holds s.cpu.flags then callTo nn 24 s else complete s 12

/-- CALL nn (R276). -/
def execCallNn (nn : Word) (s : State) : Result := callTo nn 24 s

/-- RST 0x08 (R281). -/
def execRst08 (s : State) : Result := callTo 0x0008 16 s

/-- RET NC (R279). -/
def execRetNc (s : State) : Result := if Cond.nc.holds s.cpu.flags then returnPopped 20 s else complete s 8

/-- JP NC,nn (R272). -/
def execJpNcNn (nn : Word) (s : State) : Result := if Cond.nc.holds s.cpu.flags then jumpTo nn 16 s else complete s 12

/-- CALL NC,nn (R277). -/
def execCallNcNn (nn : Word) (s : State) : Result := if Cond.nc.holds s.cpu.flags then callTo nn 24 s else complete s 12

/-- RST 0x10 (R281). -/
def execRst10 (s : State) : Result := callTo 0x0010 16 s

/-- RET C (R279). -/
def execRetC (s : State) : Result := if Cond.c.holds s.cpu.flags then returnPopped 20 s else complete s 8

/-- RETI (R280). -/
def execReti (s : State) : Result := complete (returnFromInterrupt s) 16

/-- JP C,nn (R272). -/
def execJpCNn (nn : Word) (s : State) : Result := if Cond.c.holds s.cpu.flags then jumpTo nn 16 s else complete s 12

/-- CALL C,nn (R277). -/
def execCallCNn (nn : Word) (s : State) : Result := if Cond.c.holds s.cpu.flags then callTo nn 24 s else complete s 12

/-- RST 0x18 (R281). -/
def execRst18 (s : State) : Result := callTo 0x0018 16 s

/-- RST 0x20 (R281). -/
def execRst20 (s : State) : Result := callTo 0x0020 16 s

/-- JP HL (R273). -/
def execJpHl (s : State) : Result := jumpTo s.hl 4 s

/-- RST 0x28 (R281). -/
def execRst28 (s : State) : Result := callTo 0x0028 16 s

/-- RST 0x30 (R281). -/
def execRst30 (s : State) : Result := callTo 0x0030 16 s

/-- RST 0x38 (R281). -/
def execRst38 (s : State) : Result := callTo 0x0038 16 s

end Sys2Proof.Machine
end

