-- ==== Sys2Proof/Machine/Load16.lean ====
section
/-! DEFINITION. The 16-bit loads and the stack instructions (spec/41_load16.md R181 to R186). -/

namespace Sys2Proof.Machine

/-- A pair receives an immediate (R182). -/
def loadPairImm (p : Pair) (nn : Word) (s : State) : Result := complete (s.setPair p nn) 12

/-- SP is stored, its low byte first (R181). -/
def storeSp (nn : Word) (s : State) : Result :=
  complete (memWrite (memWrite s nn (lo8 s.cpu.sp)) (nn + 1) (hi8 s.cpu.sp)) 20

/-- SP receives HL (R183). -/
def loadSpHl (s : State) : Result := complete (s.setSp s.hl) 8

/-- A pair is pushed (R184). -/
def pushPair (p : StackPair) (s : State) : Result := complete (push16 s (s.cpu.stackPair p)) 16

/-- A pair is popped; AF keeps its low nibble 0 (R185). -/
def popPair (p : StackPair) (s : State) : Result :=
  complete { popSp s with cpu := (popSp s).cpu.setStackPair p (popWord s) } 12

/-- HL receives SP plus a signed displacement (R186). -/
def loadHlSpOffset (e : Byte) (s : State) : Result :=
  let r := addSpOffset s.cpu.sp e
  complete ((s.setPair .hl r.1).setFlags r.2) 12

/-- LD BC,nn (R182). -/
def execLdBcNn (nn : Word) (s : State) : Result := loadPairImm .bc nn s

/-- LD (nn),SP (R181). -/
def execLdMemNnSp (nn : Word) (s : State) : Result := storeSp nn s

/-- LD DE,nn (R182). -/
def execLdDeNn (nn : Word) (s : State) : Result := loadPairImm .de nn s

/-- LD HL,nn (R182). -/
def execLdHlNn (nn : Word) (s : State) : Result := loadPairImm .hl nn s

/-- LD SP,nn (R182). -/
def execLdSpNn (nn : Word) (s : State) : Result := loadPairImm .sp nn s

/-- POP BC (R185). -/
def execPopBc (s : State) : Result := popPair .bc s

/-- PUSH BC (R184). -/
def execPushBc (s : State) : Result := pushPair .bc s

/-- POP DE (R185). -/
def execPopDe (s : State) : Result := popPair .de s

/-- PUSH DE (R184). -/
def execPushDe (s : State) : Result := pushPair .de s

/-- POP HL (R185). -/
def execPopHl (s : State) : Result := popPair .hl s

/-- PUSH HL (R184). -/
def execPushHl (s : State) : Result := pushPair .hl s

/-- POP AF (R185). -/
def execPopAf (s : State) : Result := popPair .af s

/-- PUSH AF (R184). -/
def execPushAf (s : State) : Result := pushPair .af s

/-- LD HL,SP+e (R186). -/
def execLdHlSpE (e : Byte) (s : State) : Result := loadHlSpOffset e s

/-- LD SP,HL (R183). -/
def execLdSpHl (s : State) : Result := loadSpHl s

end Sys2Proof.Machine
end

