-- ==== Sys2Proof/Machine/Load8.lean ====
section
/-! DEFINITION. The 8-bit loads and stores (spec/40_load8.md R150 to R168). None changes a flag. -/

namespace Sys2Proof.Machine

/-- A register receives a register (R150). -/
def loadReg (dst src : Reg) (s : State) : Result := complete (s.setReg dst (s.cpu.reg src)) 4

/-- A register receives an immediate (R151). -/
def loadImm (dst : Reg) (n : Byte) (s : State) : Result := complete (s.setReg dst n) 8

/-- A register receives the byte at an address (R152, R155, R156, R159, R161, R163). -/
def loadFrom (dst : Reg) (addr : Word) (cost : Nat) (s : State) : Result :=
  complete (s.setReg dst (memRead s addr)) cost

/-- A byte is stored at an address (R153, R154, R157, R158, R160, R162, R164). -/
def storeTo (addr : Word) (v : Byte) (cost : Nat) (s : State) : Result := complete (memWrite s addr v) cost

/-- A receives the byte at HL, then HL moves by `d` (R165, R166). -/
def loadAndMove (delta : Word) (s : State) : Result :=
  complete ((s.setReg .a (memRead s s.hl)).setPair .hl (s.hl + delta)) 8

/-- A is stored at HL, then HL moves by `d` (R167, R168). -/
def storeAndMove (delta : Word) (s : State) : Result :=
  complete ((memWrite s s.hl s.cpu.a).setPair .hl (s.hl + delta)) 8

/-- LD (BC),A (R157). -/
def execLdMemBcA (s : State) : Result := storeTo (s.cpu.pair .bc) s.cpu.a 8 s

/-- LD B,n (R151). -/
def execLdBN (n : Byte) (s : State) : Result := loadImm .b n s

/-- LD A,(BC) (R155). -/
def execLdAMemBc (s : State) : Result := loadFrom .a (s.cpu.pair .bc) 8 s

/-- LD C,n (R151). -/
def execLdCN (n : Byte) (s : State) : Result := loadImm .c n s

/-- LD (DE),A (R158). -/
def execLdMemDeA (s : State) : Result := storeTo (s.cpu.pair .de) s.cpu.a 8 s

/-- LD D,n (R151). -/
def execLdDN (n : Byte) (s : State) : Result := loadImm .d n s

/-- LD A,(DE) (R156). -/
def execLdAMemDe (s : State) : Result := loadFrom .a (s.cpu.pair .de) 8 s

/-- LD E,n (R151). -/
def execLdEN (n : Byte) (s : State) : Result := loadImm .e n s

/-- LD (HL+),A (R167). -/
def execLdMemHlIncA (s : State) : Result := storeAndMove 1 s

/-- LD H,n (R151). -/
def execLdHN (n : Byte) (s : State) : Result := loadImm .h n s

/-- LD A,(HL+) (R165). -/
def execLdAMemHlInc (s : State) : Result := loadAndMove 1 s

/-- LD L,n (R151). -/
def execLdLN (n : Byte) (s : State) : Result := loadImm .l n s

/-- LD (HL-),A (R168). -/
def execLdMemHlDecA (s : State) : Result := storeAndMove (-1) s

/-- LD (HL),n (R154). -/
def execLdMemHlN (n : Byte) (s : State) : Result := storeTo s.hl n 12 s

/-- LD A,(HL-) (R166). -/
def execLdAMemHlDec (s : State) : Result := loadAndMove (-1) s

/-- LD A,n (R151). -/
def execLdAN (n : Byte) (s : State) : Result := loadImm .a n s

/-- LD B,B (R150). -/
def execLdBB (s : State) : Result := loadReg .b .b s

/-- LD B,C (R150). -/
def execLdBC (s : State) : Result := loadReg .b .c s

/-- LD B,D (R150). -/
def execLdBD (s : State) : Result := loadReg .b .d s

/-- LD B,E (R150). -/
def execLdBE (s : State) : Result := loadReg .b .e s

/-- LD B,H (R150). -/
def execLdBH (s : State) : Result := loadReg .b .h s

/-- LD B,L (R150). -/
def execLdBL (s : State) : Result := loadReg .b .l s

/-- LD B,(HL) (R152). -/
def execLdBMemHl (s : State) : Result := loadFrom .b s.hl 8 s

/-- LD B,A (R150). -/
def execLdBA (s : State) : Result := loadReg .b .a s

/-- LD C,B (R150). -/
def execLdCB (s : State) : Result := loadReg .c .b s

/-- LD C,C (R150). -/
def execLdCC (s : State) : Result := loadReg .c .c s

/-- LD C,D (R150). -/
def execLdCD (s : State) : Result := loadReg .c .d s

/-- LD C,E (R150). -/
def execLdCE (s : State) : Result := loadReg .c .e s

/-- LD C,H (R150). -/
def execLdCH (s : State) : Result := loadReg .c .h s

/-- LD C,L (R150). -/
def execLdCL (s : State) : Result := loadReg .c .l s

/-- LD C,(HL) (R152). -/
def execLdCMemHl (s : State) : Result := loadFrom .c s.hl 8 s

/-- LD C,A (R150). -/
def execLdCA (s : State) : Result := loadReg .c .a s

/-- LD D,B (R150). -/
def execLdDB (s : State) : Result := loadReg .d .b s

/-- LD D,C (R150). -/
def execLdDC (s : State) : Result := loadReg .d .c s

/-- LD D,D (R150). -/
def execLdDD (s : State) : Result := loadReg .d .d s

/-- LD D,E (R150). -/
def execLdDE (s : State) : Result := loadReg .d .e s

/-- LD D,H (R150). -/
def execLdDH (s : State) : Result := loadReg .d .h s

/-- LD D,L (R150). -/
def execLdDL (s : State) : Result := loadReg .d .l s

/-- LD D,(HL) (R152). -/
def execLdDMemHl (s : State) : Result := loadFrom .d s.hl 8 s

/-- LD D,A (R150). -/
def execLdDA (s : State) : Result := loadReg .d .a s

/-- LD E,B (R150). -/
def execLdEB (s : State) : Result := loadReg .e .b s

/-- LD E,C (R150). -/
def execLdEC (s : State) : Result := loadReg .e .c s

/-- LD E,D (R150). -/
def execLdED (s : State) : Result := loadReg .e .d s

/-- LD E,E (R150). -/
def execLdEE (s : State) : Result := loadReg .e .e s

/-- LD E,H (R150). -/
def execLdEH (s : State) : Result := loadReg .e .h s

/-- LD E,L (R150). -/
def execLdEL (s : State) : Result := loadReg .e .l s

/-- LD E,(HL) (R152). -/
def execLdEMemHl (s : State) : Result := loadFrom .e s.hl 8 s

/-- LD E,A (R150). -/
def execLdEA (s : State) : Result := loadReg .e .a s

/-- LD H,B (R150). -/
def execLdHB (s : State) : Result := loadReg .h .b s

/-- LD H,C (R150). -/
def execLdHC (s : State) : Result := loadReg .h .c s

/-- LD H,D (R150). -/
def execLdHD (s : State) : Result := loadReg .h .d s

/-- LD H,E (R150). -/
def execLdHE (s : State) : Result := loadReg .h .e s

/-- LD H,H (R150). -/
def execLdHH (s : State) : Result := loadReg .h .h s

/-- LD H,L (R150). -/
def execLdHL (s : State) : Result := loadReg .h .l s

/-- LD H,(HL) (R152). -/
def execLdHMemHl (s : State) : Result := loadFrom .h s.hl 8 s

/-- LD H,A (R150). -/
def execLdHA (s : State) : Result := loadReg .h .a s

/-- LD L,B (R150). -/
def execLdLB (s : State) : Result := loadReg .l .b s

/-- LD L,C (R150). -/
def execLdLC (s : State) : Result := loadReg .l .c s

/-- LD L,D (R150). -/
def execLdLD (s : State) : Result := loadReg .l .d s

/-- LD L,E (R150). -/
def execLdLE (s : State) : Result := loadReg .l .e s

/-- LD L,H (R150). -/
def execLdLH (s : State) : Result := loadReg .l .h s

/-- LD L,L (R150). -/
def execLdLL (s : State) : Result := loadReg .l .l s

/-- LD L,(HL) (R152). -/
def execLdLMemHl (s : State) : Result := loadFrom .l s.hl 8 s

/-- LD L,A (R150). -/
def execLdLA (s : State) : Result := loadReg .l .a s

/-- LD (HL),B (R153). -/
def execLdMemHlB (s : State) : Result := storeTo s.hl (s.cpu.reg .b) 8 s

/-- LD (HL),C (R153). -/
def execLdMemHlC (s : State) : Result := storeTo s.hl (s.cpu.reg .c) 8 s

/-- LD (HL),D (R153). -/
def execLdMemHlD (s : State) : Result := storeTo s.hl (s.cpu.reg .d) 8 s

/-- LD (HL),E (R153). -/
def execLdMemHlE (s : State) : Result := storeTo s.hl (s.cpu.reg .e) 8 s

/-- LD (HL),H (R153). -/
def execLdMemHlH (s : State) : Result := storeTo s.hl (s.cpu.reg .h) 8 s

/-- LD (HL),L (R153). -/
def execLdMemHlL (s : State) : Result := storeTo s.hl (s.cpu.reg .l) 8 s

/-- LD (HL),A (R153). -/
def execLdMemHlA (s : State) : Result := storeTo s.hl (s.cpu.reg .a) 8 s

/-- LD A,B (R150). -/
def execLdAB (s : State) : Result := loadReg .a .b s

/-- LD A,C (R150). -/
def execLdAC (s : State) : Result := loadReg .a .c s

/-- LD A,D (R150). -/
def execLdAD (s : State) : Result := loadReg .a .d s

/-- LD A,E (R150). -/
def execLdAE (s : State) : Result := loadReg .a .e s

/-- LD A,H (R150). -/
def execLdAH (s : State) : Result := loadReg .a .h s

/-- LD A,L (R150). -/
def execLdAL (s : State) : Result := loadReg .a .l s

/-- LD A,(HL) (R152). -/
def execLdAMemHl (s : State) : Result := loadFrom .a s.hl 8 s

/-- LD A,A (R150). -/
def execLdAA (s : State) : Result := loadReg .a .a s

/-- LDH (n),A (R160). -/
def execLdhMemNA (n : Byte) (s : State) : Result := storeTo (highPage n) s.cpu.a 12 s

/-- LDH (C),A (R162). -/
def execLdhMemCA (s : State) : Result := storeTo (highPage s.cpu.c) s.cpu.a 8 s

/-- LD (nn),A (R164). -/
def execLdMemNnA (nn : Word) (s : State) : Result := storeTo nn s.cpu.a 16 s

/-- LDH A,(n) (R159). -/
def execLdhAMemN (n : Byte) (s : State) : Result := loadFrom .a (highPage n) 12 s

/-- LDH A,(C) (R161). -/
def execLdhAMemC (s : State) : Result := loadFrom .a (highPage s.cpu.c) 8 s

/-- LD A,(nn) (R163). -/
def execLdAMemNn (nn : Word) (s : State) : Result := loadFrom .a nn 16 s

end Sys2Proof.Machine
end

