-- ==== Sys2Proof/Machine/Prefixed.lean ====
section
/-! DEFINITION. The prefixed instructions (spec/47_cb_prefix.md R300 to R322) and the prefix row (spec/46_system.md R294). -/

namespace Sys2Proof.Machine

/-- A rotate, shift or SWAP of a register (R301, R303, R305, R307, R309, R311, R313, R315). -/
def shiftReg (op : ShiftOp) (x : Reg) (s : State) : Result :=
  let r := shift8 op (s.cpu.reg x) s.cpu.flags.c
  complete ((s.setReg x r.1).setFlags (shiftFlags r.1 r.2)) 8

/-- A rotate, shift or SWAP of the byte at HL (R302, R304, R306, R308, R310, R312, R314, R316). -/
def shiftMem (op : ShiftOp) (s : State) : Result :=
  let r := shift8 op (memRead s s.hl) s.cpu.flags.c
  complete ((memWrite s s.hl r.1).setFlags (shiftFlags r.1 r.2)) 16

/-- BIT of a register (R317). -/
def testBitReg (b : Fin 8) (x : Reg) (s : State) : Result :=
  complete (s.setFlags (bitFlags b (s.cpu.reg x) s.cpu.flags)) 8

/-- BIT of the byte at HL, which is not written (R318). -/
def testBitMem (b : Fin 8) (s : State) : Result :=
  complete (s.setFlags (bitFlags b (memRead s s.hl) s.cpu.flags)) 12

/-- RES of a register; no flag changes (R319). -/
def resetBitReg (b : Fin 8) (x : Reg) (s : State) : Result :=
  complete (s.setReg x (s.cpu.reg x &&& ~~~(1#8 <<< b.val))) 8

/-- RES of the byte at HL; the write happens always (R320). -/
def resetBitMem (b : Fin 8) (s : State) : Result :=
  complete (memWrite s s.hl (memRead s s.hl &&& ~~~(1#8 <<< b.val))) 16

/-- SET of a register; no flag changes (R321). -/
def setBitReg (b : Fin 8) (x : Reg) (s : State) : Result :=
  complete (s.setReg x (s.cpu.reg x ||| (1#8 <<< b.val))) 8

/-- SET of the byte at HL; the write happens always (R322). -/
def setBitMem (b : Fin 8) (s : State) : Result :=
  complete (memWrite s s.hl (memRead s s.hl ||| (1#8 <<< b.val))) 16

/-- The operand field `z`: a register, or none for the byte at HL (R124, R300). -/
def operandOf (z : BitVec 3) : Option Reg :=
  match z.toNat with
  | 0 => some .b
  | 1 => some .c
  | 2 => some .d
  | 3 => some .e
  | 4 => some .h
  | 5 => some .l
  | 6 => none
  | _ => some .a

/-- The operation field `y` of the rotate and shift group (R129, R300). -/
def shiftOpOf (y : BitVec 3) : ShiftOp :=
  match y.toNat with
  | 0 => .rlc
  | 1 => .rrc
  | 2 => .rl
  | 3 => .rr
  | 4 => .sla
  | 5 => .sra
  | 6 => .swap
  | _ => .srl

/-- PREFIX CB (R294): the instruction that the fields of `op2` select (R300). -/
def execPrefixCb (op2 : Byte) (s : State) : Result :=
  let y := op2.extractLsb' 3 3
  match (op2.extractLsb' 6 2).toNat, operandOf (op2.extractLsb' 0 3) with
  | 0, none => shiftMem (shiftOpOf y) s
  | 0, some r => shiftReg (shiftOpOf y) r s
  | 1, none => testBitMem y.toFin s
  | 1, some r => testBitReg y.toFin r s
  | 2, none => resetBitMem y.toFin s
  | 2, some r => resetBitReg y.toFin r s
  | _, none => setBitMem y.toFin s
  | _, some r => setBitReg y.toFin r s

/-- RLC B (R301). -/
def execRlcB (s : State) : Result := shiftReg .rlc .b s

/-- RLC C (R301). -/
def execRlcC (s : State) : Result := shiftReg .rlc .c s

/-- RLC D (R301). -/
def execRlcD (s : State) : Result := shiftReg .rlc .d s

/-- RLC E (R301). -/
def execRlcE (s : State) : Result := shiftReg .rlc .e s

/-- RLC H (R301). -/
def execRlcH (s : State) : Result := shiftReg .rlc .h s

/-- RLC L (R301). -/
def execRlcL (s : State) : Result := shiftReg .rlc .l s

/-- RLC (HL) (R302). -/
def execRlcMemHl (s : State) : Result := shiftMem .rlc s

/-- RLC A (R301). -/
def execRlcA (s : State) : Result := shiftReg .rlc .a s

/-- RRC B (R303). -/
def execRrcB (s : State) : Result := shiftReg .rrc .b s

/-- RRC C (R303). -/
def execRrcC (s : State) : Result := shiftReg .rrc .c s

/-- RRC D (R303). -/
def execRrcD (s : State) : Result := shiftReg .rrc .d s

/-- RRC E (R303). -/
def execRrcE (s : State) : Result := shiftReg .rrc .e s

/-- RRC H (R303). -/
def execRrcH (s : State) : Result := shiftReg .rrc .h s

/-- RRC L (R303). -/
def execRrcL (s : State) : Result := shiftReg .rrc .l s

/-- RRC (HL) (R304). -/
def execRrcMemHl (s : State) : Result := shiftMem .rrc s

/-- RRC A (R303). -/
def execRrcA (s : State) : Result := shiftReg .rrc .a s

/-- RL B (R305). -/
def execRlB (s : State) : Result := shiftReg .rl .b s

/-- RL C (R305). -/
def execRlC (s : State) : Result := shiftReg .rl .c s

/-- RL D (R305). -/
def execRlD (s : State) : Result := shiftReg .rl .d s

/-- RL E (R305). -/
def execRlE (s : State) : Result := shiftReg .rl .e s

/-- RL H (R305). -/
def execRlH (s : State) : Result := shiftReg .rl .h s

/-- RL L (R305). -/
def execRlL (s : State) : Result := shiftReg .rl .l s

/-- RL (HL) (R306). -/
def execRlMemHl (s : State) : Result := shiftMem .rl s

/-- RL A (R305). -/
def execRlA (s : State) : Result := shiftReg .rl .a s

/-- RR B (R307). -/
def execRrB (s : State) : Result := shiftReg .rr .b s

/-- RR C (R307). -/
def execRrC (s : State) : Result := shiftReg .rr .c s

/-- RR D (R307). -/
def execRrD (s : State) : Result := shiftReg .rr .d s

/-- RR E (R307). -/
def execRrE (s : State) : Result := shiftReg .rr .e s

/-- RR H (R307). -/
def execRrH (s : State) : Result := shiftReg .rr .h s

/-- RR L (R307). -/
def execRrL (s : State) : Result := shiftReg .rr .l s

/-- RR (HL) (R308). -/
def execRrMemHl (s : State) : Result := shiftMem .rr s

/-- RR A (R307). -/
def execRrA (s : State) : Result := shiftReg .rr .a s

/-- SLA B (R309). -/
def execSlaB (s : State) : Result := shiftReg .sla .b s

/-- SLA C (R309). -/
def execSlaC (s : State) : Result := shiftReg .sla .c s

/-- SLA D (R309). -/
def execSlaD (s : State) : Result := shiftReg .sla .d s

/-- SLA E (R309). -/
def execSlaE (s : State) : Result := shiftReg .sla .e s

/-- SLA H (R309). -/
def execSlaH (s : State) : Result := shiftReg .sla .h s

/-- SLA L (R309). -/
def execSlaL (s : State) : Result := shiftReg .sla .l s

/-- SLA (HL) (R310). -/
def execSlaMemHl (s : State) : Result := shiftMem .sla s

/-- SLA A (R309). -/
def execSlaA (s : State) : Result := shiftReg .sla .a s

/-- SRA B (R311). -/
def execSraB (s : State) : Result := shiftReg .sra .b s

/-- SRA C (R311). -/
def execSraC (s : State) : Result := shiftReg .sra .c s

/-- SRA D (R311). -/
def execSraD (s : State) : Result := shiftReg .sra .d s

/-- SRA E (R311). -/
def execSraE (s : State) : Result := shiftReg .sra .e s

/-- SRA H (R311). -/
def execSraH (s : State) : Result := shiftReg .sra .h s

/-- SRA L (R311). -/
def execSraL (s : State) : Result := shiftReg .sra .l s

/-- SRA (HL) (R312). -/
def execSraMemHl (s : State) : Result := shiftMem .sra s

/-- SRA A (R311). -/
def execSraA (s : State) : Result := shiftReg .sra .a s

/-- SWAP B (R313). -/
def execSwapB (s : State) : Result := shiftReg .swap .b s

/-- SWAP C (R313). -/
def execSwapC (s : State) : Result := shiftReg .swap .c s

/-- SWAP D (R313). -/
def execSwapD (s : State) : Result := shiftReg .swap .d s

/-- SWAP E (R313). -/
def execSwapE (s : State) : Result := shiftReg .swap .e s

/-- SWAP H (R313). -/
def execSwapH (s : State) : Result := shiftReg .swap .h s

/-- SWAP L (R313). -/
def execSwapL (s : State) : Result := shiftReg .swap .l s

/-- SWAP (HL) (R314). -/
def execSwapMemHl (s : State) : Result := shiftMem .swap s

/-- SWAP A (R313). -/
def execSwapA (s : State) : Result := shiftReg .swap .a s

/-- SRL B (R315). -/
def execSrlB (s : State) : Result := shiftReg .srl .b s

/-- SRL C (R315). -/
def execSrlC (s : State) : Result := shiftReg .srl .c s

/-- SRL D (R315). -/
def execSrlD (s : State) : Result := shiftReg .srl .d s

/-- SRL E (R315). -/
def execSrlE (s : State) : Result := shiftReg .srl .e s

/-- SRL H (R315). -/
def execSrlH (s : State) : Result := shiftReg .srl .h s

/-- SRL L (R315). -/
def execSrlL (s : State) : Result := shiftReg .srl .l s

/-- SRL (HL) (R316). -/
def execSrlMemHl (s : State) : Result := shiftMem .srl s

/-- SRL A (R315). -/
def execSrlA (s : State) : Result := shiftReg .srl .a s

/-- BIT 0,B (R317). -/
def execBit0B (s : State) : Result := testBitReg 0 .b s

/-- BIT 0,C (R317). -/
def execBit0C (s : State) : Result := testBitReg 0 .c s

/-- BIT 0,D (R317). -/
def execBit0D (s : State) : Result := testBitReg 0 .d s

/-- BIT 0,E (R317). -/
def execBit0E (s : State) : Result := testBitReg 0 .e s

/-- BIT 0,H (R317). -/
def execBit0H (s : State) : Result := testBitReg 0 .h s

/-- BIT 0,L (R317). -/
def execBit0L (s : State) : Result := testBitReg 0 .l s

/-- BIT 0,(HL) (R318). -/
def execBit0MemHl (s : State) : Result := testBitMem 0 s

/-- BIT 0,A (R317). -/
def execBit0A (s : State) : Result := testBitReg 0 .a s

/-- BIT 1,B (R317). -/
def execBit1B (s : State) : Result := testBitReg 1 .b s

/-- BIT 1,C (R317). -/
def execBit1C (s : State) : Result := testBitReg 1 .c s

/-- BIT 1,D (R317). -/
def execBit1D (s : State) : Result := testBitReg 1 .d s

/-- BIT 1,E (R317). -/
def execBit1E (s : State) : Result := testBitReg 1 .e s

/-- BIT 1,H (R317). -/
def execBit1H (s : State) : Result := testBitReg 1 .h s

/-- BIT 1,L (R317). -/
def execBit1L (s : State) : Result := testBitReg 1 .l s

/-- BIT 1,(HL) (R318). -/
def execBit1MemHl (s : State) : Result := testBitMem 1 s

/-- BIT 1,A (R317). -/
def execBit1A (s : State) : Result := testBitReg 1 .a s

/-- BIT 2,B (R317). -/
def execBit2B (s : State) : Result := testBitReg 2 .b s

/-- BIT 2,C (R317). -/
def execBit2C (s : State) : Result := testBitReg 2 .c s

/-- BIT 2,D (R317). -/
def execBit2D (s : State) : Result := testBitReg 2 .d s

/-- BIT 2,E (R317). -/
def execBit2E (s : State) : Result := testBitReg 2 .e s

/-- BIT 2,H (R317). -/
def execBit2H (s : State) : Result := testBitReg 2 .h s

/-- BIT 2,L (R317). -/
def execBit2L (s : State) : Result := testBitReg 2 .l s

/-- BIT 2,(HL) (R318). -/
def execBit2MemHl (s : State) : Result := testBitMem 2 s

/-- BIT 2,A (R317). -/
def execBit2A (s : State) : Result := testBitReg 2 .a s

/-- BIT 3,B (R317). -/
def execBit3B (s : State) : Result := testBitReg 3 .b s

/-- BIT 3,C (R317). -/
def execBit3C (s : State) : Result := testBitReg 3 .c s

/-- BIT 3,D (R317). -/
def execBit3D (s : State) : Result := testBitReg 3 .d s

/-- BIT 3,E (R317). -/
def execBit3E (s : State) : Result := testBitReg 3 .e s

/-- BIT 3,H (R317). -/
def execBit3H (s : State) : Result := testBitReg 3 .h s

/-- BIT 3,L (R317). -/
def execBit3L (s : State) : Result := testBitReg 3 .l s

/-- BIT 3,(HL) (R318). -/
def execBit3MemHl (s : State) : Result := testBitMem 3 s

/-- BIT 3,A (R317). -/
def execBit3A (s : State) : Result := testBitReg 3 .a s

/-- BIT 4,B (R317). -/
def execBit4B (s : State) : Result := testBitReg 4 .b s

/-- BIT 4,C (R317). -/
def execBit4C (s : State) : Result := testBitReg 4 .c s

/-- BIT 4,D (R317). -/
def execBit4D (s : State) : Result := testBitReg 4 .d s

/-- BIT 4,E (R317). -/
def execBit4E (s : State) : Result := testBitReg 4 .e s

/-- BIT 4,H (R317). -/
def execBit4H (s : State) : Result := testBitReg 4 .h s

/-- BIT 4,L (R317). -/
def execBit4L (s : State) : Result := testBitReg 4 .l s

/-- BIT 4,(HL) (R318). -/
def execBit4MemHl (s : State) : Result := testBitMem 4 s

/-- BIT 4,A (R317). -/
def execBit4A (s : State) : Result := testBitReg 4 .a s

/-- BIT 5,B (R317). -/
def execBit5B (s : State) : Result := testBitReg 5 .b s

/-- BIT 5,C (R317). -/
def execBit5C (s : State) : Result := testBitReg 5 .c s

/-- BIT 5,D (R317). -/
def execBit5D (s : State) : Result := testBitReg 5 .d s

/-- BIT 5,E (R317). -/
def execBit5E (s : State) : Result := testBitReg 5 .e s

/-- BIT 5,H (R317). -/
def execBit5H (s : State) : Result := testBitReg 5 .h s

/-- BIT 5,L (R317). -/
def execBit5L (s : State) : Result := testBitReg 5 .l s

/-- BIT 5,(HL) (R318). -/
def execBit5MemHl (s : State) : Result := testBitMem 5 s

/-- BIT 5,A (R317). -/
def execBit5A (s : State) : Result := testBitReg 5 .a s

/-- BIT 6,B (R317). -/
def execBit6B (s : State) : Result := testBitReg 6 .b s

/-- BIT 6,C (R317). -/
def execBit6C (s : State) : Result := testBitReg 6 .c s

/-- BIT 6,D (R317). -/
def execBit6D (s : State) : Result := testBitReg 6 .d s

/-- BIT 6,E (R317). -/
def execBit6E (s : State) : Result := testBitReg 6 .e s

/-- BIT 6,H (R317). -/
def execBit6H (s : State) : Result := testBitReg 6 .h s

/-- BIT 6,L (R317). -/
def execBit6L (s : State) : Result := testBitReg 6 .l s

/-- BIT 6,(HL) (R318). -/
def execBit6MemHl (s : State) : Result := testBitMem 6 s

/-- BIT 6,A (R317). -/
def execBit6A (s : State) : Result := testBitReg 6 .a s

/-- BIT 7,B (R317). -/
def execBit7B (s : State) : Result := testBitReg 7 .b s

/-- BIT 7,C (R317). -/
def execBit7C (s : State) : Result := testBitReg 7 .c s

/-- BIT 7,D (R317). -/
def execBit7D (s : State) : Result := testBitReg 7 .d s

/-- BIT 7,E (R317). -/
def execBit7E (s : State) : Result := testBitReg 7 .e s

/-- BIT 7,H (R317). -/
def execBit7H (s : State) : Result := testBitReg 7 .h s

/-- BIT 7,L (R317). -/
def execBit7L (s : State) : Result := testBitReg 7 .l s

/-- BIT 7,(HL) (R318). -/
def execBit7MemHl (s : State) : Result := testBitMem 7 s

/-- BIT 7,A (R317). -/
def execBit7A (s : State) : Result := testBitReg 7 .a s

/-- RES 0,B (R319). -/
def execRes0B (s : State) : Result := resetBitReg 0 .b s

/-- RES 0,C (R319). -/
def execRes0C (s : State) : Result := resetBitReg 0 .c s

/-- RES 0,D (R319). -/
def execRes0D (s : State) : Result := resetBitReg 0 .d s

/-- RES 0,E (R319). -/
def execRes0E (s : State) : Result := resetBitReg 0 .e s

/-- RES 0,H (R319). -/
def execRes0H (s : State) : Result := resetBitReg 0 .h s

/-- RES 0,L (R319). -/
def execRes0L (s : State) : Result := resetBitReg 0 .l s

/-- RES 0,(HL) (R320). -/
def execRes0MemHl (s : State) : Result := resetBitMem 0 s

/-- RES 0,A (R319). -/
def execRes0A (s : State) : Result := resetBitReg 0 .a s

/-- RES 1,B (R319). -/
def execRes1B (s : State) : Result := resetBitReg 1 .b s

/-- RES 1,C (R319). -/
def execRes1C (s : State) : Result := resetBitReg 1 .c s

/-- RES 1,D (R319). -/
def execRes1D (s : State) : Result := resetBitReg 1 .d s

/-- RES 1,E (R319). -/
def execRes1E (s : State) : Result := resetBitReg 1 .e s

/-- RES 1,H (R319). -/
def execRes1H (s : State) : Result := resetBitReg 1 .h s

/-- RES 1,L (R319). -/
def execRes1L (s : State) : Result := resetBitReg 1 .l s

/-- RES 1,(HL) (R320). -/
def execRes1MemHl (s : State) : Result := resetBitMem 1 s

/-- RES 1,A (R319). -/
def execRes1A (s : State) : Result := resetBitReg 1 .a s

/-- RES 2,B (R319). -/
def execRes2B (s : State) : Result := resetBitReg 2 .b s

/-- RES 2,C (R319). -/
def execRes2C (s : State) : Result := resetBitReg 2 .c s

/-- RES 2,D (R319). -/
def execRes2D (s : State) : Result := resetBitReg 2 .d s

/-- RES 2,E (R319). -/
def execRes2E (s : State) : Result := resetBitReg 2 .e s

/-- RES 2,H (R319). -/
def execRes2H (s : State) : Result := resetBitReg 2 .h s

/-- RES 2,L (R319). -/
def execRes2L (s : State) : Result := resetBitReg 2 .l s

/-- RES 2,(HL) (R320). -/
def execRes2MemHl (s : State) : Result := resetBitMem 2 s

/-- RES 2,A (R319). -/
def execRes2A (s : State) : Result := resetBitReg 2 .a s

/-- RES 3,B (R319). -/
def execRes3B (s : State) : Result := resetBitReg 3 .b s

/-- RES 3,C (R319). -/
def execRes3C (s : State) : Result := resetBitReg 3 .c s

/-- RES 3,D (R319). -/
def execRes3D (s : State) : Result := resetBitReg 3 .d s

/-- RES 3,E (R319). -/
def execRes3E (s : State) : Result := resetBitReg 3 .e s

/-- RES 3,H (R319). -/
def execRes3H (s : State) : Result := resetBitReg 3 .h s

/-- RES 3,L (R319). -/
def execRes3L (s : State) : Result := resetBitReg 3 .l s

/-- RES 3,(HL) (R320). -/
def execRes3MemHl (s : State) : Result := resetBitMem 3 s

/-- RES 3,A (R319). -/
def execRes3A (s : State) : Result := resetBitReg 3 .a s

/-- RES 4,B (R319). -/
def execRes4B (s : State) : Result := resetBitReg 4 .b s

/-- RES 4,C (R319). -/
def execRes4C (s : State) : Result := resetBitReg 4 .c s

/-- RES 4,D (R319). -/
def execRes4D (s : State) : Result := resetBitReg 4 .d s

/-- RES 4,E (R319). -/
def execRes4E (s : State) : Result := resetBitReg 4 .e s

/-- RES 4,H (R319). -/
def execRes4H (s : State) : Result := resetBitReg 4 .h s

/-- RES 4,L (R319). -/
def execRes4L (s : State) : Result := resetBitReg 4 .l s

/-- RES 4,(HL) (R320). -/
def execRes4MemHl (s : State) : Result := resetBitMem 4 s

/-- RES 4,A (R319). -/
def execRes4A (s : State) : Result := resetBitReg 4 .a s

/-- RES 5,B (R319). -/
def execRes5B (s : State) : Result := resetBitReg 5 .b s

/-- RES 5,C (R319). -/
def execRes5C (s : State) : Result := resetBitReg 5 .c s

/-- RES 5,D (R319). -/
def execRes5D (s : State) : Result := resetBitReg 5 .d s

/-- RES 5,E (R319). -/
def execRes5E (s : State) : Result := resetBitReg 5 .e s

/-- RES 5,H (R319). -/
def execRes5H (s : State) : Result := resetBitReg 5 .h s

/-- RES 5,L (R319). -/
def execRes5L (s : State) : Result := resetBitReg 5 .l s

/-- RES 5,(HL) (R320). -/
def execRes5MemHl (s : State) : Result := resetBitMem 5 s

/-- RES 5,A (R319). -/
def execRes5A (s : State) : Result := resetBitReg 5 .a s

/-- RES 6,B (R319). -/
def execRes6B (s : State) : Result := resetBitReg 6 .b s

/-- RES 6,C (R319). -/
def execRes6C (s : State) : Result := resetBitReg 6 .c s

/-- RES 6,D (R319). -/
def execRes6D (s : State) : Result := resetBitReg 6 .d s

/-- RES 6,E (R319). -/
def execRes6E (s : State) : Result := resetBitReg 6 .e s

/-- RES 6,H (R319). -/
def execRes6H (s : State) : Result := resetBitReg 6 .h s

/-- RES 6,L (R319). -/
def execRes6L (s : State) : Result := resetBitReg 6 .l s

/-- RES 6,(HL) (R320). -/
def execRes6MemHl (s : State) : Result := resetBitMem 6 s

/-- RES 6,A (R319). -/
def execRes6A (s : State) : Result := resetBitReg 6 .a s

/-- RES 7,B (R319). -/
def execRes7B (s : State) : Result := resetBitReg 7 .b s

/-- RES 7,C (R319). -/
def execRes7C (s : State) : Result := resetBitReg 7 .c s

/-- RES 7,D (R319). -/
def execRes7D (s : State) : Result := resetBitReg 7 .d s

/-- RES 7,E (R319). -/
def execRes7E (s : State) : Result := resetBitReg 7 .e s

/-- RES 7,H (R319). -/
def execRes7H (s : State) : Result := resetBitReg 7 .h s

/-- RES 7,L (R319). -/
def execRes7L (s : State) : Result := resetBitReg 7 .l s

/-- RES 7,(HL) (R320). -/
def execRes7MemHl (s : State) : Result := resetBitMem 7 s

/-- RES 7,A (R319). -/
def execRes7A (s : State) : Result := resetBitReg 7 .a s

/-- SET 0,B (R321). -/
def execSet0B (s : State) : Result := setBitReg 0 .b s

/-- SET 0,C (R321). -/
def execSet0C (s : State) : Result := setBitReg 0 .c s

/-- SET 0,D (R321). -/
def execSet0D (s : State) : Result := setBitReg 0 .d s

/-- SET 0,E (R321). -/
def execSet0E (s : State) : Result := setBitReg 0 .e s

/-- SET 0,H (R321). -/
def execSet0H (s : State) : Result := setBitReg 0 .h s

/-- SET 0,L (R321). -/
def execSet0L (s : State) : Result := setBitReg 0 .l s

/-- SET 0,(HL) (R322). -/
def execSet0MemHl (s : State) : Result := setBitMem 0 s

/-- SET 0,A (R321). -/
def execSet0A (s : State) : Result := setBitReg 0 .a s

/-- SET 1,B (R321). -/
def execSet1B (s : State) : Result := setBitReg 1 .b s

/-- SET 1,C (R321). -/
def execSet1C (s : State) : Result := setBitReg 1 .c s

/-- SET 1,D (R321). -/
def execSet1D (s : State) : Result := setBitReg 1 .d s

/-- SET 1,E (R321). -/
def execSet1E (s : State) : Result := setBitReg 1 .e s

/-- SET 1,H (R321). -/
def execSet1H (s : State) : Result := setBitReg 1 .h s

/-- SET 1,L (R321). -/
def execSet1L (s : State) : Result := setBitReg 1 .l s

/-- SET 1,(HL) (R322). -/
def execSet1MemHl (s : State) : Result := setBitMem 1 s

/-- SET 1,A (R321). -/
def execSet1A (s : State) : Result := setBitReg 1 .a s

/-- SET 2,B (R321). -/
def execSet2B (s : State) : Result := setBitReg 2 .b s

/-- SET 2,C (R321). -/
def execSet2C (s : State) : Result := setBitReg 2 .c s

/-- SET 2,D (R321). -/
def execSet2D (s : State) : Result := setBitReg 2 .d s

/-- SET 2,E (R321). -/
def execSet2E (s : State) : Result := setBitReg 2 .e s

/-- SET 2,H (R321). -/
def execSet2H (s : State) : Result := setBitReg 2 .h s

/-- SET 2,L (R321). -/
def execSet2L (s : State) : Result := setBitReg 2 .l s

/-- SET 2,(HL) (R322). -/
def execSet2MemHl (s : State) : Result := setBitMem 2 s

/-- SET 2,A (R321). -/
def execSet2A (s : State) : Result := setBitReg 2 .a s

/-- SET 3,B (R321). -/
def execSet3B (s : State) : Result := setBitReg 3 .b s

/-- SET 3,C (R321). -/
def execSet3C (s : State) : Result := setBitReg 3 .c s

/-- SET 3,D (R321). -/
def execSet3D (s : State) : Result := setBitReg 3 .d s

/-- SET 3,E (R321). -/
def execSet3E (s : State) : Result := setBitReg 3 .e s

/-- SET 3,H (R321). -/
def execSet3H (s : State) : Result := setBitReg 3 .h s

/-- SET 3,L (R321). -/
def execSet3L (s : State) : Result := setBitReg 3 .l s

/-- SET 3,(HL) (R322). -/
def execSet3MemHl (s : State) : Result := setBitMem 3 s

/-- SET 3,A (R321). -/
def execSet3A (s : State) : Result := setBitReg 3 .a s

/-- SET 4,B (R321). -/
def execSet4B (s : State) : Result := setBitReg 4 .b s

/-- SET 4,C (R321). -/
def execSet4C (s : State) : Result := setBitReg 4 .c s

/-- SET 4,D (R321). -/
def execSet4D (s : State) : Result := setBitReg 4 .d s

/-- SET 4,E (R321). -/
def execSet4E (s : State) : Result := setBitReg 4 .e s

/-- SET 4,H (R321). -/
def execSet4H (s : State) : Result := setBitReg 4 .h s

/-- SET 4,L (R321). -/
def execSet4L (s : State) : Result := setBitReg 4 .l s

/-- SET 4,(HL) (R322). -/
def execSet4MemHl (s : State) : Result := setBitMem 4 s

/-- SET 4,A (R321). -/
def execSet4A (s : State) : Result := setBitReg 4 .a s

/-- SET 5,B (R321). -/
def execSet5B (s : State) : Result := setBitReg 5 .b s

/-- SET 5,C (R321). -/
def execSet5C (s : State) : Result := setBitReg 5 .c s

/-- SET 5,D (R321). -/
def execSet5D (s : State) : Result := setBitReg 5 .d s

/-- SET 5,E (R321). -/
def execSet5E (s : State) : Result := setBitReg 5 .e s

/-- SET 5,H (R321). -/
def execSet5H (s : State) : Result := setBitReg 5 .h s

/-- SET 5,L (R321). -/
def execSet5L (s : State) : Result := setBitReg 5 .l s

/-- SET 5,(HL) (R322). -/
def execSet5MemHl (s : State) : Result := setBitMem 5 s

/-- SET 5,A (R321). -/
def execSet5A (s : State) : Result := setBitReg 5 .a s

/-- SET 6,B (R321). -/
def execSet6B (s : State) : Result := setBitReg 6 .b s

/-- SET 6,C (R321). -/
def execSet6C (s : State) : Result := setBitReg 6 .c s

/-- SET 6,D (R321). -/
def execSet6D (s : State) : Result := setBitReg 6 .d s

/-- SET 6,E (R321). -/
def execSet6E (s : State) : Result := setBitReg 6 .e s

/-- SET 6,H (R321). -/
def execSet6H (s : State) : Result := setBitReg 6 .h s

/-- SET 6,L (R321). -/
def execSet6L (s : State) : Result := setBitReg 6 .l s

/-- SET 6,(HL) (R322). -/
def execSet6MemHl (s : State) : Result := setBitMem 6 s

/-- SET 6,A (R321). -/
def execSet6A (s : State) : Result := setBitReg 6 .a s

/-- SET 7,B (R321). -/
def execSet7B (s : State) : Result := setBitReg 7 .b s

/-- SET 7,C (R321). -/
def execSet7C (s : State) : Result := setBitReg 7 .c s

/-- SET 7,D (R321). -/
def execSet7D (s : State) : Result := setBitReg 7 .d s

/-- SET 7,E (R321). -/
def execSet7E (s : State) : Result := setBitReg 7 .e s

/-- SET 7,H (R321). -/
def execSet7H (s : State) : Result := setBitReg 7 .h s

/-- SET 7,L (R321). -/
def execSet7L (s : State) : Result := setBitReg 7 .l s

/-- SET 7,(HL) (R322). -/
def execSet7MemHl (s : State) : Result := setBitMem 7 s

/-- SET 7,A (R321). -/
def execSet7A (s : State) : Result := setBitReg 7 .a s

end Sys2Proof.Machine
end

