-- ==== Sys2Proof/Machine/RotateMisc.lean ====
section
/-! DEFINITION. NOP, the accumulator rotates, DAA, CPL, SCF and CCF (spec/44_rotate_misc.md R250 to R258). -/

namespace Sys2Proof.Machine

/-- A rotate of A; Z is cleared (R251 to R254). -/
def rotateA (op : ShiftOp) (s : State) : Result :=
  let r := shift8 op s.cpu.a s.cpu.flags.c
  complete ((s.setReg .a r.1).setFlags (accRotateFlags r.2)) 4

/-- DAA (R255). -/
def decimalAdjust (s : State) : Result :=
  let r := daa8 s.cpu.a s.cpu.flags
  complete ((s.setReg .a r.1).setFlags r.2) 4

/-- NOP (R250). -/
def execNop (s : State) : Result := complete s 4

/-- RLCA (R251). -/
def execRlca (s : State) : Result := rotateA .rlc s

/-- RRCA (R252). -/
def execRrca (s : State) : Result := rotateA .rrc s

/-- RLA (R253). -/
def execRla (s : State) : Result := rotateA .rl s

/-- RRA (R254). -/
def execRra (s : State) : Result := rotateA .rr s

/-- DAA (R255). -/
def execDaa (s : State) : Result := decimalAdjust s

/-- CPL (R256). -/
def execCpl (s : State) : Result :=
  complete ((s.setReg .a (s.cpu.a ^^^ 0xFF)).setFlags { s.cpu.flags with n := true, h := true }) 4

/-- SCF (R257). -/
def execScf (s : State) : Result := complete (s.setFlags { s.cpu.flags with n := false, h := false, c := true }) 4

/-- CCF (R258). -/
def execCcf (s : State) : Result := complete (s.setFlags { s.cpu.flags with n := false, h := false, c := !s.cpu.flags.c }) 4

end Sys2Proof.Machine
end

