-- ==== Sys2Proof/Machine/System.lean ====
section
/-! DEFINITION. HALT, STOP, DI, EI and the undefined opcodes (spec/46_system.md R290 to R295). -/

namespace Sys2Proof.Machine

/-- The halted flag is set (R290, R291). -/
def State.halt (s : State) : State := { s with cpu := { s.cpu with halted := true } }

/-- IME is written (R292, R293). -/
def State.setIme (s : State) (b : Bool) : State := { s with cpu := { s.cpu with ime := b } }

/-- STOP (R291): by STOP_MODE. -/
def execStop (_ : Byte) (s : State) : Result :=
  match s.cfg.stopMode with
  | .fault => raiseUnimplemented 0x10 2 s
  | .halt => complete s.halt 4

/-- HALT (R290). -/
def execHalt (s : State) : Result := complete s.halt 4

/-- UNDEFINED 0xD3 (R295). -/
def execUndefinedD3 (s : State) : Result := raiseUnimplemented 0xD3 1 s

/-- UNDEFINED 0xDB (R295). -/
def execUndefinedDB (s : State) : Result := raiseUnimplemented 0xDB 1 s

/-- UNDEFINED 0xDD (R295). -/
def execUndefinedDD (s : State) : Result := raiseUnimplemented 0xDD 1 s

/-- UNDEFINED 0xE3 (R295). -/
def execUndefinedE3 (s : State) : Result := raiseUnimplemented 0xE3 1 s

/-- UNDEFINED 0xE4 (R295). -/
def execUndefinedE4 (s : State) : Result := raiseUnimplemented 0xE4 1 s

/-- UNDEFINED 0xEB (R295). -/
def execUndefinedEB (s : State) : Result := raiseUnimplemented 0xEB 1 s

/-- UNDEFINED 0xEC (R295). -/
def execUndefinedEC (s : State) : Result := raiseUnimplemented 0xEC 1 s

/-- UNDEFINED 0xED (R295). -/
def execUndefinedED (s : State) : Result := raiseUnimplemented 0xED 1 s

/-- DI (R292). -/
def execDi (s : State) : Result := complete (s.setIme false) 4

/-- UNDEFINED 0xF4 (R295). -/
def execUndefinedF4 (s : State) : Result := raiseUnimplemented 0xF4 1 s

/-- EI (R293). -/
def execEi (s : State) : Result := complete (s.setIme true) 4

/-- UNDEFINED 0xFC (R295). -/
def execUndefinedFC (s : State) : Result := raiseUnimplemented 0xFC 1 s

/-- UNDEFINED 0xFD (R295). -/
def execUndefinedFD (s : State) : Result := raiseUnimplemented 0xFD 1 s

end Sys2Proof.Machine
end

