-- ==== Sys2Proof/Machine/Processor.lean ====
section
/-! DEFINITION. The Processor's `executeStep` (spec/60_exceptions.md R339, R340): the interrupt check, the halted step, the fetch
and the execution of one instruction. -/

namespace Sys2Proof.Machine

/-- The pending set: IE and IF and 0x1F (R339). -/
def pending (s : State) : Byte := s.mem.read 0xFFFF &&& s.mem.read 0xFF0F &&& 0x1F

/-- The pending source with the lowest bit number (R342), for a pending set that is not 0. -/
def lowestSource (p : Byte) : Fin 5 :=
  if p.getLsbD 0 then 0 else if p.getLsbD 1 then 1 else if p.getLsbD 2 then 2 else if p.getLsbD 3 then 3 else 4

/-- The instruction at PC: its bytes are read through the bus, as data is (R26, R72). Bytes beyond its length play no part. -/
def fetched (s : State) : Instr :=
  decodeBytes (memRead s s.cpu.pc) (memRead s (s.cpu.pc + 1)) (memRead s (s.cpu.pc + 2))

/-- The number of bytes that the instruction at PC has (R121). -/
def fetchedLength (s : State) : Nat := (firstByte (memRead s s.cpu.pc)).length

/-- Fetch and execute the instruction at PC (R26). -/
def executeFetched (s : State) : Result := exec (fetched s) (s.setPc (s.cpu.pc + BitVec.ofNat 16 (fetchedLength s)))

/-- A pending interrupt clears the halted flag, whether or not IME is set (R27, R340). -/
def wake (s : State) : State := { s with cpu := { s.cpu with halted := s.cpu.halted && pending s == 0 } }

/-- The faulting step has changed no `halted` (R330): the fault of an undefined opcode to which a pending interrupt woke the
Processor carries the flag as it was before the step, although R340 clears it before the fetch (log entry 6, DEDUCED). -/
def keepHalted (halted : Bool) : Result → Result
  | .next t => .next t
  | .fault (.unimplementedOpcode op addr t) => .fault (.unimplementedOpcode op addr { t with cpu := { t.cpu with halted := halted } })
  | .refused r => .refused r

/-- `executeStep()` (R340): take the interrupt, or idle while halted, or run one instruction. -/
def executeStep (s : State) : Result :=
  if pending s ≠ 0 ∧ s.cpu.ime then .next (takeInterrupt (lowestSource (pending s)) (wake s))
  else if (wake s).cpu.halted then complete (wake s) s.cfg.haltIdleCycles
  else keepHalted s.cpu.halted (executeFetched (wake s))

end Sys2Proof.Machine
end

