-- ==== Sys2Proof/Machine/Placing.lean ====
section
/-! DEFINITION. Placing an instruction where the Processor fetches its next one: the model's stand-in for a program image that
the host loads (R561), used by `State.withFetchWord` only. -/

namespace Sys2Proof.Machine

/-- The address can hold an instruction byte: what the bus reads there is a stored byte that decides nothing else about the
step (IE, IF, the joypad, the sound registers and the unusable region are left out). -/
def State.placeable (s : State) (addr : Word) : Bool :=
  let a := addr.toNat
  if a < 0x8000 then s.cart.romOffset a < s.cart.romSize
  else if a < 0xA000 then true
  else if a < 0xC000 then
    match s.cart.ctl.ramTarget with
    | .bank n => ramOffset n a < s.cart.xramSize
    | _ => false
  else if a < 0xFEA0 then true
  else 0xFF80 ≤ a ∧ a < 0xFFFF

/-- Put a byte at an address that can hold one: into the image, the external RAM or `mem`. -/
def State.place (s : State) (addr : Word) (v : Byte) : State :=
  let a := addr.toNat
  if a < 0x8000 then
    { s with cart := { s.cart with rom := Cells.write initZero s.cart.rom (s.cart.romOffset a) v } }
  else if 0xA000 ≤ a ∧ a < 0xC000 then { s with cart := s.cart.writeRam a v }
  else if 0xE000 ≤ a ∧ a < 0xFE00 then s.setMem (a - 0x2000) v
  else s.setMem a v

/-- The address the instruction is placed at: PC, or the start of working RAM if a byte would not fit at PC. -/
def State.placingPc (s : State) : Word :=
  if s.placeable s.cpu.pc ∧ s.placeable (s.cpu.pc + 1) ∧ s.placeable (s.cpu.pc + 2) then s.cpu.pc else 0xC000

/-- The state in which the next `executeStep` fetches these three bytes: not halted, and IME clear if an interrupt would be
taken instead. -/
def State.placeInstr (s : State) (b0 b1 b2 : Byte) : State :=
  let pc := s.placingPc
  let t := ((s.place pc b0).place (pc + 1) b1).place (pc + 2) b2
  { t with cpu := { t.cpu with pc := pc, halted := false, ime := t.cpu.ime && pending s == 0 } }

end Sys2Proof.Machine
end

