-- ==== Sys2Proof/Machine/Step.lean ====
section
/-! DEFINITION. One step of the machine is one system iteration (spec/70_reset_and_hazards.md R570). -/

namespace Sys2Proof.Machine

/-- `iterate()` (R570): `executeStep`, then the three engines by the cycle count it returned. If it faults, none of them is
advanced and the run ends (R330). -/
def step (s : State) : Host.Outcome State Fault Refusal :=
  match executeStep s with
  | .next t => .next (advanceEngines t.out.cycles t)
  | .fault f => .fault f
  | .refused r => .refused r

/-- The state with the instruction of an opcode-table word placed where the next step fetches. -/
def State.withFetchWord (s : State) (nbits w : Nat) : State :=
  match tableBytes nbits w with
  | (b0, b1, b2) => s.placeInstr b0 b1 b2

end Sys2Proof.Machine
end

