-- ==== Sys2Proof/Machine/Invariant.lean ====
section
/-! DEFINITION. The ranges and the relations between fields that the spec states of every reachable state, component by
component. Each is decidable; the host move `restore` refuses a snapshot that breaks one (R23, A23). -/

namespace Sys2Proof.Machine

/-- The low nibble of F is 0 (R23). -/
abbrev Processor.Inv (p : Processor) : Prop := p.f &&& 0x0F = 0

/-- The accumulators stay below the longest period of their counters (R32, R388). -/
abbrev TimerUnit.Inv (t : TimerUnit) : Prop := t.divAcc < 256 ∧ t.timaAcc < 1024

/-- The line counter of a mode: V-blank holds lines 144 to 153, the other modes lines 0 to 143 (R404, R414). -/
abbrev lineOk (mode : Mode) (ly : Byte) : Prop :=
  if mode = .vblank then 144 ≤ ly.toNat ∧ ly.toNat ≤ 153 else ly.toNat ≤ 143

/-- The PixelUnit between calls: the clock is below the budget of the mode (R33), STAT shows the mode (R402), LY suits it
(R404, R414), the ten entries of the snapshot that no line uses are (0, 0) (R416), and the frame is canonical. -/
abbrev pixelInv (s : State) : Prop :=
  s.ppu.clock < s.ppu.mode.budget ∧ (s.mem.read 0xFF41).extractLsb' 0 2 = s.ppu.mode.number ∧
    lineOk s.ppu.mode (s.mem.read 0xFF44) ∧
    (∀ n : Fin 154, 144 ≤ n.val → s.ppu.scrollCache[n] = (0, 0)) ∧ s.ppu.frame.wf

/-- The ranges of the sound state (R462 to R466), and what the master switch leaves: with the power off every register is 0
and every channel is disabled (R469, R530). -/
abbrev SoundUnit.Inv (u : SoundUnit) (c : Config) : Prop :=
  (u.fsAcc < 8192 ∧ u.fsStep < 8 ∧ u.sampleAcc < c.cpuHz) ∧
    (u.ch1.length ≤ 64 ∧ u.ch2.length ≤ 64 ∧ u.ch3.length ≤ 256 ∧ u.ch4.length ≤ 64) ∧
    (u.env1.volume ≤ 15 ∧ u.env2.volume ≤ 15 ∧ u.env4.volume ≤ 15) ∧
    (u.env1.envTimer ≤ 7 ∧ u.env2.envTimer ≤ 7 ∧ u.env4.envTimer ≤ 7) ∧
    (u.dutyStep1 < 8 ∧ u.dutyStep2 < 8 ∧ u.sampleIndex < 32) ∧ (u.shadow ≤ 2047 ∧ u.sweepTimer ≤ 8) ∧
    (u.power = false → u.nr = Vector.replicate 22 0 ∧ u.ch1.enabled = false ∧ u.ch2.enabled = false ∧ u.ch3.enabled = false ∧
      u.ch4.enabled = false)

/-- A bank register in which 0 is replaced by 1 is not 0 (R97, R98). -/
def BankController.ok : BankController → Bool
  | .flat => true
  | .mbc1 _ romLow _ _ => romLow != 0
  | .mbc3 _ bank _ => bank != 0
  | .mbc5 _ _ _ => true

/-- The cartridge port: bank registers in range, the external RAM at most 128 KiB (R92), both stores canonical. -/
abbrev Cartridge.Inv (c : Cartridge) : Prop :=
  c.ctl.ok = true ∧ c.xramSize ≤ 131072 ∧ Cells.Wf initZero c.romSize c.rom ∧ Cells.Wf initZero c.xramSize c.xram

/-- The invariant of the machine. -/
def State.Inv (s : State) : Prop :=
  s.cpu.Inv ∧ s.mem.wf ∧ s.timer.Inv ∧ pixelInv s ∧ s.snd.Inv s.cfg ∧ s.cart.Inv ∧ s.cfg.Valid

/-- The same, as a test. -/
def State.acceptable (s : State) : Bool :=
  decide s.cpu.Inv && decide s.mem.wf && decide s.timer.Inv && decide (pixelInv s) && decide (s.snd.Inv s.cfg) &&
    decide s.cart.Inv && decide s.cfg.Valid

end Sys2Proof.Machine
end

