-- ==== Sys2Proof/Machine/HostMoves.lean ====
section
/-! DEFINITION. The moves of the host between two steps (spec/70_reset_and_hazards.md R581, R582, R584): loading an image, the
buttons, and snapshots. -/

namespace Sys2Proof.Machine

/-- The bytes of an image, offset 0 first, as a canonical store. -/
def imageCells (bytes : List Byte) : Memory :=
  (bytes.zipIdx.filter (fun p => p.1 ≠ 0)).map (fun p => (p.2, p.1))

/-- `load(CART)` then `reset` (R561): the machine state, or the refusal of the image (R90, R91). -/
def load (c : Config) (bytes : List Byte) : Except Refusal State :=
  (Cartridge.ofImage (imageCells bytes) bytes.length).map (State.resetWith c)

/-- The eight buttons (R35). -/
inductive Button where
  | right | left | up | down | a | b | select | start
  deriving DecidableEq, Repr

/-- Is the button pressed? -/
def Buttons.get (k : Buttons) : Button → Bool
  | .right => k.right
  | .left => k.left
  | .up => k.up
  | .down => k.down
  | .a => k.a
  | .b => k.b
  | .select => k.select
  | .start => k.start

/-- `button[x] <- v`. -/
def Buttons.set (k : Buttons) (x : Button) (v : Bool) : Buttons :=
  match x with
  | .right => { k with right := v }
  | .left => { k with left := v }
  | .up => { k with up := v }
  | .down => { k with down := v }
  | .a => { k with a := v }
  | .b => { k with b := v }
  | .select => { k with select := v }
  | .start => { k with start := v }

/-- The state with a button set. -/
def State.setButton (s : State) (x : Button) (v : Bool) : State :=
  { s with joypad := { s.joypad with buttons := s.joypad.buttons.set x v } }

/-- `press(x)` (R582, R337): a press of a released button requests interrupt 4 if JOYPAD_IRQ_ON_PRESS is set. -/
def press (x : Button) (s : State) : State :=
  if !s.joypad.buttons.get x && s.cfg.joypadIrqOnPress then requestInterrupt (s.setButton x true) 4
  else s.setButton x true

/-- `release(x)` (R582). -/
def release (x : Button) (s : State) : State := s.setButton x false

/-- The colour the host shows for a shade, SHADE_COLOUR[s] (R428); none while the host has given no colours (R8). -/
def shadeColour (c : Config) (s : Shade) : Option Colour := c.shadeColours.map (fun v => v[s.toNat]'s.isLt)

/-- The colour at a pixel of the frame that the last step presented, if it presented one (R428). -/
def State.presentedColour (s : State) (x y : Nat) : Option Colour :=
  s.out.presented.bind (fun f => shadeColour s.cfg (f.shade x y))

/-- `extract` (R584): the whole state tuple. -/
def extract (s : State) : State := s

/-- The kind of a bank controller, which never changes after load (R36, R90). -/
inductive ControllerKind where
  | flat | mbc1 | mbc3 | mbc5
  deriving DecidableEq, Repr

/-- The kind of a bank controller. -/
def BankController.kind : BankController → ControllerKind
  | .flat => .flat
  | .mbc1 .. => .mbc1
  | .mbc3 .. => .mbc3
  | .mbc5 .. => .mbc5

/-- `restore(snapshot)` (R584): the state becomes the snapshot. The image, its sizes and the configuration are not restored, and
the kind cannot change; a snapshot of another kind, or one that no run reaches (R23, A23), is refused. -/
def restore (snapshot s : State) : Except Refusal State :=
  let t := { snapshot with
    cart := { s.cart with ctl := snapshot.cart.ctl, xram := snapshot.cart.xram }
    cfg := s.cfg }
  if t.acceptable ∧ snapshot.cart.ctl.kind = s.cart.ctl.kind then .ok t else .error .snapshotRefused

end Sys2Proof.Machine
end

