-- ==== Sys2Proof/Safety.lean ====
section
/-! DEFINITION. What counts as a safe run, and when a run is finished (spec/70_reset_and_hazards.md R585). -/

namespace Sys2Proof.Machine

/-- The next step of the state raises the fault of R330. -/
def Faults (s : State) : Prop := ∃ f, step s = .fault f

/-- The state can make `n` steps and none of them faults. -/
def SafeFor : Nat → State → Prop
  | 0, _ => True
  | n + 1, s => ∃ t, step s = .next t ∧ SafeFor n t

/-- Every step from the state, for ever, completes. -/
def Safe (s : State) : Prop := ∀ n, SafeFor n s

/-- The state is halted with IME = 0 and IE = 0, so that nothing can wake it (R585, R290). -/
def State.asleep (s : State) : Bool := s.cpu.halted && !s.cpu.ime && s.mem.read 0xFFFF == 0

/-- The next step executes the instruction at PC: no interrupt is taken and the Processor does not idle (R340). -/
def State.executes (s : State) : Bool := !(pending s != 0 && s.cpu.ime) && !(wake s).cpu.halted

/-- The next step executes a jump to itself (R585): JR -2, or JP to its own address. DESIGN CHOICE (log entry 15): of the jumps
that can go to their own address the unconditional JR e and JP nn count; a taken JR cc,e or JP cc,nn, and JP HL, do not, for R585
names JR -2 and JP and says nothing of those forms. -/
def State.atSelfJump (s : State) : Bool := s.executes && (fetched s == .jrE 0xFE || fetched s == .jpNn s.cpu.pc)

/-- The run is finished (R585). -/
def State.finished (s : State) : Bool := s.asleep || s.atSelfJump

end Sys2Proof.Machine
end

