-- ==== Sys2Proof/Certificates/Slice0/Obligations.lean ====
section
/-! DEFINITION. The statements about the model that are to be proved. The tables list every instruction with its bytes, written
out from the encodings of the rules, so that a statement about a row says what those bytes do. -/

namespace Sys2Proof.Claims

open Sys2Proof.Machine

/-- The state after an instruction that changes only the Processor, which becomes `p`, at a cost of `n` cycles. -/
def after (s : State) (p : Processor) (n : Nat) : State := { s with cpu := p, out := { s.out with cycles := n } }

/-- F with the four flags, its low nibble 0 (R23). -/
def flagByte (z n h c : Bool) : Byte :=
  (if z then 0x80 else 0x00) ||| (if n then 0x40 else 0x00) ||| (if h then 0x20 else 0x00) ||| (if c then 0x10 else 0x00)

/-- The carry flag as a number. -/
def carry (s : State) : Nat := (s.cpu.f.getLsbD 4).toNat

/-- R150: the 49 loads from register to register. -/
def regLoads : List (List Byte × Instr × Reg × Reg) :=
  [
    ([0x40], .ldBB, .b, .b), ([0x41], .ldBC, .b, .c), ([0x42], .ldBD, .b, .d), ([0x43], .ldBE, .b, .e),
    ([0x44], .ldBH, .b, .h), ([0x45], .ldBL, .b, .l), ([0x47], .ldBA, .b, .a), ([0x48], .ldCB, .c, .b),
    ([0x49], .ldCC, .c, .c), ([0x4A], .ldCD, .c, .d), ([0x4B], .ldCE, .c, .e), ([0x4C], .ldCH, .c, .h),
    ([0x4D], .ldCL, .c, .l), ([0x4F], .ldCA, .c, .a), ([0x50], .ldDB, .d, .b), ([0x51], .ldDC, .d, .c),
    ([0x52], .ldDD, .d, .d), ([0x53], .ldDE, .d, .e), ([0x54], .ldDH, .d, .h), ([0x55], .ldDL, .d, .l),
    ([0x57], .ldDA, .d, .a), ([0x58], .ldEB, .e, .b), ([0x59], .ldEC, .e, .c), ([0x5A], .ldED, .e, .d),
    ([0x5B], .ldEE, .e, .e), ([0x5C], .ldEH, .e, .h), ([0x5D], .ldEL, .e, .l), ([0x5F], .ldEA, .e, .a),
    ([0x60], .ldHB, .h, .b), ([0x61], .ldHC, .h, .c), ([0x62], .ldHD, .h, .d), ([0x63], .ldHE, .h, .e),
    ([0x64], .ldHH, .h, .h), ([0x65], .ldHL, .h, .l), ([0x67], .ldHA, .h, .a), ([0x68], .ldLB, .l, .b),
    ([0x69], .ldLC, .l, .c), ([0x6A], .ldLD, .l, .d), ([0x6B], .ldLE, .l, .e), ([0x6C], .ldLH, .l, .h),
    ([0x6D], .ldLL, .l, .l), ([0x6F], .ldLA, .l, .a), ([0x78], .ldAB, .a, .b), ([0x79], .ldAC, .a, .c),
    ([0x7A], .ldAD, .a, .d), ([0x7B], .ldAE, .a, .e), ([0x7C], .ldAH, .a, .h), ([0x7D], .ldAL, .a, .l),
    ([0x7F], .ldAA, .a, .a)]

/-- R151: the seven loads of an immediate. -/
def immLoads (n : Byte) : List (List Byte × Instr × Reg) :=
  [
    ([0x06, n], .ldBN n, .b), ([0x0E, n], .ldCN n, .c), ([0x16, n], .ldDN n, .d), ([0x1E, n], .ldEN n, .e),
    ([0x26, n], .ldHN n, .h), ([0x2E, n], .ldLN n, .l), ([0x3E, n], .ldAN n, .a)]

/-- R152, R155, R156, R159, R161, R163: the loads of a byte of memory, with the address read and the cost. -/
def memLoads (n : Byte) (nn : Word) : List (List Byte × Instr × Reg × (State → Word) × Nat) :=
  [
    ([0x0A], .ldAMemBc, .a, fun s => s.cpu.b ++ s.cpu.c, 8), ([0x1A], .ldAMemDe, .a, fun s => s.cpu.d ++ s.cpu.e, 8),
    ([0x46], .ldBMemHl, .b, fun s => s.cpu.h ++ s.cpu.l, 8), ([0x4E], .ldCMemHl, .c, fun s => s.cpu.h ++ s.cpu.l, 8),
    ([0x56], .ldDMemHl, .d, fun s => s.cpu.h ++ s.cpu.l, 8), ([0x5E], .ldEMemHl, .e, fun s => s.cpu.h ++ s.cpu.l, 8),
    ([0x66], .ldHMemHl, .h, fun s => s.cpu.h ++ s.cpu.l, 8), ([0x6E], .ldLMemHl, .l, fun s => s.cpu.h ++ s.cpu.l, 8),
    ([0x7E], .ldAMemHl, .a, fun s => s.cpu.h ++ s.cpu.l, 8), ([0xF0, n], .ldhAMemN n, .a, fun _ => 0xFF#8 ++ n, 12),
    ([0xF2], .ldhAMemC, .a, fun s => 0xFF#8 ++ s.cpu.c, 8), ([0xFA, lo8 nn, hi8 nn], .ldAMemNn nn, .a, fun _ => nn, 16)]

/-- R153, R154, R157, R158, R160, R162, R164: the stores of a byte, with the address, the byte and the cost. -/
def memStores (n : Byte) (nn : Word) : List (List Byte × Instr × (State → Word) × (State → Byte) × Nat) :=
  [
    ([0x02], .ldMemBcA, fun s => s.cpu.b ++ s.cpu.c, fun s => s.cpu.a, 8),
    ([0x12], .ldMemDeA, fun s => s.cpu.d ++ s.cpu.e, fun s => s.cpu.a, 8),
    ([0x36, n], .ldMemHlN n, fun s => s.cpu.h ++ s.cpu.l, fun _ => n, 12),
    ([0x70], .ldMemHlB, fun s => s.cpu.h ++ s.cpu.l, fun s => s.cpu.b, 8),
    ([0x71], .ldMemHlC, fun s => s.cpu.h ++ s.cpu.l, fun s => s.cpu.c, 8),
    ([0x72], .ldMemHlD, fun s => s.cpu.h ++ s.cpu.l, fun s => s.cpu.d, 8),
    ([0x73], .ldMemHlE, fun s => s.cpu.h ++ s.cpu.l, fun s => s.cpu.e, 8),
    ([0x74], .ldMemHlH, fun s => s.cpu.h ++ s.cpu.l, fun s => s.cpu.h, 8),
    ([0x75], .ldMemHlL, fun s => s.cpu.h ++ s.cpu.l, fun s => s.cpu.l, 8),
    ([0x77], .ldMemHlA, fun s => s.cpu.h ++ s.cpu.l, fun s => s.cpu.a, 8),
    ([0xE0, n], .ldhMemNA n, fun _ => 0xFF#8 ++ n, fun s => s.cpu.a, 12),
    ([0xE2], .ldhMemCA, fun s => 0xFF#8 ++ s.cpu.c, fun s => s.cpu.a, 8),
    ([0xEA, lo8 nn, hi8 nn], .ldMemNnA nn, fun _ => nn, fun s => s.cpu.a, 16)]

/-- R201 to R203: the nine forms of ADD, with the operand and the cost. -/
def addRows (n : Byte) : List (List Byte × Instr × (State → Byte) × Nat) :=
  [
    ([0x80], .addAB, fun s => s.cpu.b, 4), ([0x81], .addAC, fun s => s.cpu.c, 4), ([0x82], .addAD, fun s => s.cpu.d, 4),
    ([0x83], .addAE, fun s => s.cpu.e, 4), ([0x84], .addAH, fun s => s.cpu.h, 4), ([0x85], .addAL, fun s => s.cpu.l, 4),
    ([0x86], .addAMemHl, fun s => memRead s (s.cpu.h ++ s.cpu.l), 8), ([0x87], .addAA, fun s => s.cpu.a, 4),
    ([0xC6, n], .addAN n, fun _ => n, 8)]

/-- R204 to R206: the nine forms of ADC, with the operand and the cost. -/
def adcRows (n : Byte) : List (List Byte × Instr × (State → Byte) × Nat) :=
  [
    ([0x88], .adcAB, fun s => s.cpu.b, 4), ([0x89], .adcAC, fun s => s.cpu.c, 4), ([0x8A], .adcAD, fun s => s.cpu.d, 4),
    ([0x8B], .adcAE, fun s => s.cpu.e, 4), ([0x8C], .adcAH, fun s => s.cpu.h, 4), ([0x8D], .adcAL, fun s => s.cpu.l, 4),
    ([0x8E], .adcAMemHl, fun s => memRead s (s.cpu.h ++ s.cpu.l), 8), ([0x8F], .adcAA, fun s => s.cpu.a, 4),
    ([0xCE, n], .adcAN n, fun _ => n, 8)]

/-- R207 to R209: the nine forms of SUB, with the operand and the cost. -/
def subRows (n : Byte) : List (List Byte × Instr × (State → Byte) × Nat) :=
  [
    ([0x90], .subB, fun s => s.cpu.b, 4), ([0x91], .subC, fun s => s.cpu.c, 4), ([0x92], .subD, fun s => s.cpu.d, 4),
    ([0x93], .subE, fun s => s.cpu.e, 4), ([0x94], .subH, fun s => s.cpu.h, 4), ([0x95], .subL, fun s => s.cpu.l, 4),
    ([0x96], .subMemHl, fun s => memRead s (s.cpu.h ++ s.cpu.l), 8), ([0x97], .subA, fun s => s.cpu.a, 4),
    ([0xD6, n], .subN n, fun _ => n, 8)]

/-- R210 to R212: the nine forms of SBC, with the operand and the cost. -/
def sbcRows (n : Byte) : List (List Byte × Instr × (State → Byte) × Nat) :=
  [
    ([0x98], .sbcAB, fun s => s.cpu.b, 4), ([0x99], .sbcAC, fun s => s.cpu.c, 4), ([0x9A], .sbcAD, fun s => s.cpu.d, 4),
    ([0x9B], .sbcAE, fun s => s.cpu.e, 4), ([0x9C], .sbcAH, fun s => s.cpu.h, 4), ([0x9D], .sbcAL, fun s => s.cpu.l, 4),
    ([0x9E], .sbcAMemHl, fun s => memRead s (s.cpu.h ++ s.cpu.l), 8), ([0x9F], .sbcAA, fun s => s.cpu.a, 4),
    ([0xDE, n], .sbcAN n, fun _ => n, 8)]

/-- R213 to R215: the nine forms of AND, with the operand and the cost. -/
def andRows (n : Byte) : List (List Byte × Instr × (State → Byte) × Nat) :=
  [
    ([0xA0], .andB, fun s => s.cpu.b, 4), ([0xA1], .andC, fun s => s.cpu.c, 4), ([0xA2], .andD, fun s => s.cpu.d, 4),
    ([0xA3], .andE, fun s => s.cpu.e, 4), ([0xA4], .andH, fun s => s.cpu.h, 4), ([0xA5], .andL, fun s => s.cpu.l, 4),
    ([0xA6], .andMemHl, fun s => memRead s (s.cpu.h ++ s.cpu.l), 8), ([0xA7], .andA, fun s => s.cpu.a, 4),
    ([0xE6, n], .andN n, fun _ => n, 8)]

/-- R216 to R218: the nine forms of XOR, with the operand and the cost. -/
def xorRows (n : Byte) : List (List Byte × Instr × (State → Byte) × Nat) :=
  [
    ([0xA8], .xorB, fun s => s.cpu.b, 4), ([0xA9], .xorC, fun s => s.cpu.c, 4), ([0xAA], .xorD, fun s => s.cpu.d, 4),
    ([0xAB], .xorE, fun s => s.cpu.e, 4), ([0xAC], .xorH, fun s => s.cpu.h, 4), ([0xAD], .xorL, fun s => s.cpu.l, 4),
    ([0xAE], .xorMemHl, fun s => memRead s (s.cpu.h ++ s.cpu.l), 8), ([0xAF], .xorA, fun s => s.cpu.a, 4),
    ([0xEE, n], .xorN n, fun _ => n, 8)]

/-- R219 to R221: the nine forms of OR, with the operand and the cost. -/
def orRows (n : Byte) : List (List Byte × Instr × (State → Byte) × Nat) :=
  [
    ([0xB0], .orB, fun s => s.cpu.b, 4), ([0xB1], .orC, fun s => s.cpu.c, 4), ([0xB2], .orD, fun s => s.cpu.d, 4),
    ([0xB3], .orE, fun s => s.cpu.e, 4), ([0xB4], .orH, fun s => s.cpu.h, 4), ([0xB5], .orL, fun s => s.cpu.l, 4),
    ([0xB6], .orMemHl, fun s => memRead s (s.cpu.h ++ s.cpu.l), 8), ([0xB7], .orA, fun s => s.cpu.a, 4),
    ([0xF6, n], .orN n, fun _ => n, 8)]

/-- R222 to R224: the nine forms of CP, with the operand and the cost. -/
def cpRows (n : Byte) : List (List Byte × Instr × (State → Byte) × Nat) :=
  [
    ([0xB8], .cpB, fun s => s.cpu.b, 4), ([0xB9], .cpC, fun s => s.cpu.c, 4), ([0xBA], .cpD, fun s => s.cpu.d, 4),
    ([0xBB], .cpE, fun s => s.cpu.e, 4), ([0xBC], .cpH, fun s => s.cpu.h, 4), ([0xBD], .cpL, fun s => s.cpu.l, 4),
    ([0xBE], .cpMemHl, fun s => memRead s (s.cpu.h ++ s.cpu.l), 8), ([0xBF], .cpA, fun s => s.cpu.a, 4),
    ([0xFE, n], .cpN n, fun _ => n, 8)]

/-- R225: INC of a register. -/
def incRows : List (List Byte × Instr × Reg) :=
  [
    ([0x04], .incB, .b), ([0x0C], .incC, .c), ([0x14], .incD, .d), ([0x1C], .incE, .e), ([0x24], .incH, .h),
    ([0x2C], .incL, .l), ([0x3C], .incA, .a)]

/-- R227: DEC of a register. -/
def decRows : List (List Byte × Instr × Reg) :=
  [
    ([0x05], .decB, .b), ([0x0D], .decC, .c), ([0x15], .decD, .d), ([0x1D], .decE, .e), ([0x25], .decH, .h),
    ([0x2D], .decL, .l), ([0x3D], .decA, .a)]

/-- R182: the loads of a pair, with what the Processor becomes. -/
def pairLoads (nn : Word) : List (List Byte × Instr × (State → Processor)) :=
  [
    ([0x01, lo8 nn, hi8 nn], .ldBcNn nn, fun s => { s.cpu with b := hi8 (nn), c := lo8 (nn) }),
    ([0x11, lo8 nn, hi8 nn], .ldDeNn nn, fun s => { s.cpu with d := hi8 (nn), e := lo8 (nn) }),
    ([0x21, lo8 nn, hi8 nn], .ldHlNn nn, fun s => { s.cpu with h := hi8 (nn), l := lo8 (nn) }),
    ([0x31, lo8 nn, hi8 nn], .ldSpNn nn, fun s => { s.cpu with sp := nn })]

/-- R241: INC of a pair, with what the Processor becomes. -/
def pairIncs : List (List Byte × Instr × (State → Processor)) :=
  [
    ([0x03], .incBc, fun s => { s.cpu with b := hi8 ((s.cpu.b ++ s.cpu.c) + 1), c := lo8 ((s.cpu.b ++ s.cpu.c) + 1) }),
    ([0x13], .incDe, fun s => { s.cpu with d := hi8 ((s.cpu.d ++ s.cpu.e) + 1), e := lo8 ((s.cpu.d ++ s.cpu.e) + 1) }),
    ([0x23], .incHl, fun s => { s.cpu with h := hi8 ((s.cpu.h ++ s.cpu.l) + 1), l := lo8 ((s.cpu.h ++ s.cpu.l) + 1) }),
    ([0x33], .incSp, fun s => { s.cpu with sp := (s.cpu.sp) + 1 })]

/-- R242: DEC of a pair, with what the Processor becomes. -/
def pairDecs : List (List Byte × Instr × (State → Processor)) :=
  [
    ([0x0B], .decBc, fun s => { s.cpu with b := hi8 ((s.cpu.b ++ s.cpu.c) - 1), c := lo8 ((s.cpu.b ++ s.cpu.c) - 1) }),
    ([0x1B], .decDe, fun s => { s.cpu with d := hi8 ((s.cpu.d ++ s.cpu.e) - 1), e := lo8 ((s.cpu.d ++ s.cpu.e) - 1) }),
    ([0x2B], .decHl, fun s => { s.cpu with h := hi8 ((s.cpu.h ++ s.cpu.l) - 1), l := lo8 ((s.cpu.h ++ s.cpu.l) - 1) }),
    ([0x3B], .decSp, fun s => { s.cpu with sp := (s.cpu.sp) - 1 })]

/-- R240: ADD HL,rr with the right operand. -/
def addHlRows : List (List Byte × Instr × (State → Word)) :=
  [
    ([0x09], .addHlBc, fun s => s.cpu.b ++ s.cpu.c), ([0x19], .addHlDe, fun s => s.cpu.d ++ s.cpu.e),
    ([0x29], .addHlHl, fun s => s.cpu.h ++ s.cpu.l), ([0x39], .addHlSp, fun s => s.cpu.sp)]

/-- R184: PUSH, with the high and the low byte pushed. -/
def pushRows : List (List Byte × Instr × (Processor → Byte) × (Processor → Byte)) :=
  [
    ([0xC5], .pushBc, fun p => p.b, fun p => p.c), ([0xD5], .pushDe, fun p => p.d, fun p => p.e),
    ([0xE5], .pushHl, fun p => p.h, fun p => p.l), ([0xF5], .pushAf, fun p => p.a, fun p => p.f)]

/-- R185: POP, with what the Processor becomes for a high and a low byte. -/
def popRows : List (List Byte × Instr × (Processor → Byte → Byte → Processor)) :=
  [
    ([0xC1], .popBc, fun p h l => { p with b := h, c := l }), ([0xD1], .popDe, fun p h l => { p with d := h, e := l }),
    ([0xE1], .popHl, fun p h l => { p with h := h, l := l }),
    ([0xF1], .popAf, fun p h l => { p with a := h, f := l &&& 0xF0 })]

/-- R251 to R254: the rotates of A, with the new value and the bit that goes out, for the value and the old carry. -/
def accRotates : List (List Byte × Instr × (Nat → Nat → Nat) × (Nat → Bool)) :=
  [
    ([0x07], .rlca, fun v _ => v * 2 % 256 + v / 128, fun v => decide (128 ≤ v)),
    ([0x0F], .rrca, fun v _ => v / 2 + v % 2 * 128, fun v => decide (v % 2 = 1)),
    ([0x17], .rla, fun v c => v * 2 % 256 + c, fun v => decide (128 ≤ v)),
    ([0x1F], .rra, fun v c => v / 2 + c * 128, fun v => decide (v % 2 = 1))]

/-- R271, R272: JP to an absolute target, with the condition. -/
def jumpRows (nn : Word) : List (List Byte × Instr × (State → Bool)) :=
  [
    ([0xC2, lo8 nn, hi8 nn], .jpNzNn nn, fun s => !s.cpu.f.getLsbD 7), ([0xC3, lo8 nn, hi8 nn], .jpNn nn, fun _ => true),
    ([0xCA, lo8 nn, hi8 nn], .jpZNn nn, fun s => s.cpu.f.getLsbD 7),
    ([0xD2, lo8 nn, hi8 nn], .jpNcNn nn, fun s => !s.cpu.f.getLsbD 4),
    ([0xDA, lo8 nn, hi8 nn], .jpCNn nn, fun s => s.cpu.f.getLsbD 4)]

/-- R274, R275: JR, with the condition. -/
def relRows (e : Byte) : List (List Byte × Instr × (State → Bool)) :=
  [
    ([0x18, e], .jrE e, fun _ => true), ([0x20, e], .jrNzE e, fun s => !s.cpu.f.getLsbD 7),
    ([0x28, e], .jrZE e, fun s => s.cpu.f.getLsbD 7), ([0x30, e], .jrNcE e, fun s => !s.cpu.f.getLsbD 4),
    ([0x38, e], .jrCE e, fun s => s.cpu.f.getLsbD 4)]

/-- R276, R277: CALL, with the condition. -/
def callRows (nn : Word) : List (List Byte × Instr × (State → Bool)) :=
  [
    ([0xC4, lo8 nn, hi8 nn], .callNzNn nn, fun s => !s.cpu.f.getLsbD 7),
    ([0xCC, lo8 nn, hi8 nn], .callZNn nn, fun s => s.cpu.f.getLsbD 7), ([0xCD, lo8 nn, hi8 nn], .callNn nn, fun _ => true),
    ([0xD4, lo8 nn, hi8 nn], .callNcNn nn, fun s => !s.cpu.f.getLsbD 4),
    ([0xDC, lo8 nn, hi8 nn], .callCNn nn, fun s => s.cpu.f.getLsbD 4)]

/-- R281: RST, with its target. -/
def rstRows : List (List Byte × Instr × Word) :=
  [
    ([0xC7], .rst00, 0x0000), ([0xCF], .rst08, 0x0008), ([0xD7], .rst10, 0x0010), ([0xDF], .rst18, 0x0018),
    ([0xE7], .rst20, 0x0020), ([0xEF], .rst28, 0x0028), ([0xF7], .rst30, 0x0030), ([0xFF], .rst38, 0x0038)]

/-- R278, R279: RET, with the condition and the cost when it returns. -/
def retRows : List (List Byte × Instr × (State → Bool) × Nat) :=
  [
    ([0xC0], .retNz, fun s => !s.cpu.f.getLsbD 7, 20), ([0xC8], .retZ, fun s => s.cpu.f.getLsbD 7, 20),
    ([0xC9], .ret, fun _ => true, 16), ([0xD0], .retNc, fun s => !s.cpu.f.getLsbD 4, 20),
    ([0xD8], .retC, fun s => s.cpu.f.getLsbD 4, 20)]

/-- R295: the eleven first bytes with no instruction. -/
def undefinedRows : List (List Byte × Instr × Byte) :=
  [
    ([0xD3], .undefinedD3, 0xD3), ([0xDB], .undefinedDB, 0xDB), ([0xDD], .undefinedDD, 0xDD), ([0xE3], .undefinedE3, 0xE3),
    ([0xE4], .undefinedE4, 0xE4), ([0xEB], .undefinedEB, 0xEB), ([0xEC], .undefinedEC, 0xEC), ([0xED], .undefinedED, 0xED),
    ([0xF4], .undefinedF4, 0xF4), ([0xFC], .undefinedFC, 0xFC), ([0xFD], .undefinedFD, 0xFD)]

/-- R301 to R316: the value a rotate, shift or SWAP writes, for the operand and the old carry, by the operation number of R129. -/
def shifted (op v c : Nat) : Nat :=
  match op with
  | 0 => v * 2 % 256 + v / 128
  | 1 => v / 2 + v % 2 * 128
  | 2 => v * 2 % 256 + c
  | 3 => v / 2 + c * 128
  | 4 => v * 2 % 256
  | 5 => v / 2 + v / 128 * 128
  | 6 => v % 16 * 16 + v / 16
  | _ => v / 2

/-- R301 to R316: the carry it leaves. -/
def shiftedOut (op v : Nat) : Bool :=
  match op with
  | 0 => decide (128 ≤ v)
  | 1 => decide (v % 2 = 1)
  | 2 => decide (128 ≤ v)
  | 3 => decide (v % 2 = 1)
  | 4 => decide (128 ≤ v)
  | 5 => decide (v % 2 = 1)
  | 6 => decide (False)
  | _ => decide (v % 2 = 1)

/-- R301 to R315: the rotates, shifts and SWAPs of a register, with the operation number. -/
def shiftRegs : List (List Byte × Instr × Nat × Reg) :=
  [
    ([0xCB, 0x00], .rlcB, 0, .b), ([0xCB, 0x01], .rlcC, 0, .c), ([0xCB, 0x02], .rlcD, 0, .d), ([0xCB, 0x03], .rlcE, 0, .e),
    ([0xCB, 0x04], .rlcH, 0, .h), ([0xCB, 0x05], .rlcL, 0, .l), ([0xCB, 0x07], .rlcA, 0, .a), ([0xCB, 0x08], .rrcB, 1, .b),
    ([0xCB, 0x09], .rrcC, 1, .c), ([0xCB, 0x0A], .rrcD, 1, .d), ([0xCB, 0x0B], .rrcE, 1, .e), ([0xCB, 0x0C], .rrcH, 1, .h),
    ([0xCB, 0x0D], .rrcL, 1, .l), ([0xCB, 0x0F], .rrcA, 1, .a), ([0xCB, 0x10], .rlB, 2, .b), ([0xCB, 0x11], .rlC, 2, .c),
    ([0xCB, 0x12], .rlD, 2, .d), ([0xCB, 0x13], .rlE, 2, .e), ([0xCB, 0x14], .rlH, 2, .h), ([0xCB, 0x15], .rlL, 2, .l),
    ([0xCB, 0x17], .rlA, 2, .a), ([0xCB, 0x18], .rrB, 3, .b), ([0xCB, 0x19], .rrC, 3, .c), ([0xCB, 0x1A], .rrD, 3, .d),
    ([0xCB, 0x1B], .rrE, 3, .e), ([0xCB, 0x1C], .rrH, 3, .h), ([0xCB, 0x1D], .rrL, 3, .l), ([0xCB, 0x1F], .rrA, 3, .a),
    ([0xCB, 0x20], .slaB, 4, .b), ([0xCB, 0x21], .slaC, 4, .c), ([0xCB, 0x22], .slaD, 4, .d), ([0xCB, 0x23], .slaE, 4, .e),
    ([0xCB, 0x24], .slaH, 4, .h), ([0xCB, 0x25], .slaL, 4, .l), ([0xCB, 0x27], .slaA, 4, .a), ([0xCB, 0x28], .sraB, 5, .b),
    ([0xCB, 0x29], .sraC, 5, .c), ([0xCB, 0x2A], .sraD, 5, .d), ([0xCB, 0x2B], .sraE, 5, .e), ([0xCB, 0x2C], .sraH, 5, .h),
    ([0xCB, 0x2D], .sraL, 5, .l), ([0xCB, 0x2F], .sraA, 5, .a), ([0xCB, 0x30], .swapB, 6, .b), ([0xCB, 0x31], .swapC, 6, .c),
    ([0xCB, 0x32], .swapD, 6, .d), ([0xCB, 0x33], .swapE, 6, .e), ([0xCB, 0x34], .swapH, 6, .h),
    ([0xCB, 0x35], .swapL, 6, .l), ([0xCB, 0x37], .swapA, 6, .a), ([0xCB, 0x38], .srlB, 7, .b), ([0xCB, 0x39], .srlC, 7, .c),
    ([0xCB, 0x3A], .srlD, 7, .d), ([0xCB, 0x3B], .srlE, 7, .e), ([0xCB, 0x3C], .srlH, 7, .h), ([0xCB, 0x3D], .srlL, 7, .l),
    ([0xCB, 0x3F], .srlA, 7, .a)]

/-- R302 to R316: the rotates, shifts and SWAPs of the byte at HL. -/
def shiftMems : List (List Byte × Instr × Nat) :=
  [
    ([0xCB, 0x06], .rlcMemHl, 0), ([0xCB, 0x0E], .rrcMemHl, 1), ([0xCB, 0x16], .rlMemHl, 2), ([0xCB, 0x1E], .rrMemHl, 3),
    ([0xCB, 0x26], .slaMemHl, 4), ([0xCB, 0x2E], .sraMemHl, 5), ([0xCB, 0x36], .swapMemHl, 6), ([0xCB, 0x3E], .srlMemHl, 7)]

/-- R317: BIT of a register, with the bit number. -/
def bitRegs : List (List Byte × Instr × Nat × Reg) :=
  [
    ([0xCB, 0x40], .bit0B, 0, .b), ([0xCB, 0x41], .bit0C, 0, .c), ([0xCB, 0x42], .bit0D, 0, .d),
    ([0xCB, 0x43], .bit0E, 0, .e), ([0xCB, 0x44], .bit0H, 0, .h), ([0xCB, 0x45], .bit0L, 0, .l),
    ([0xCB, 0x47], .bit0A, 0, .a), ([0xCB, 0x48], .bit1B, 1, .b), ([0xCB, 0x49], .bit1C, 1, .c),
    ([0xCB, 0x4A], .bit1D, 1, .d), ([0xCB, 0x4B], .bit1E, 1, .e), ([0xCB, 0x4C], .bit1H, 1, .h),
    ([0xCB, 0x4D], .bit1L, 1, .l), ([0xCB, 0x4F], .bit1A, 1, .a), ([0xCB, 0x50], .bit2B, 2, .b),
    ([0xCB, 0x51], .bit2C, 2, .c), ([0xCB, 0x52], .bit2D, 2, .d), ([0xCB, 0x53], .bit2E, 2, .e),
    ([0xCB, 0x54], .bit2H, 2, .h), ([0xCB, 0x55], .bit2L, 2, .l), ([0xCB, 0x57], .bit2A, 2, .a),
    ([0xCB, 0x58], .bit3B, 3, .b), ([0xCB, 0x59], .bit3C, 3, .c), ([0xCB, 0x5A], .bit3D, 3, .d),
    ([0xCB, 0x5B], .bit3E, 3, .e), ([0xCB, 0x5C], .bit3H, 3, .h), ([0xCB, 0x5D], .bit3L, 3, .l),
    ([0xCB, 0x5F], .bit3A, 3, .a), ([0xCB, 0x60], .bit4B, 4, .b), ([0xCB, 0x61], .bit4C, 4, .c),
    ([0xCB, 0x62], .bit4D, 4, .d), ([0xCB, 0x63], .bit4E, 4, .e), ([0xCB, 0x64], .bit4H, 4, .h),
    ([0xCB, 0x65], .bit4L, 4, .l), ([0xCB, 0x67], .bit4A, 4, .a), ([0xCB, 0x68], .bit5B, 5, .b),
    ([0xCB, 0x69], .bit5C, 5, .c), ([0xCB, 0x6A], .bit5D, 5, .d), ([0xCB, 0x6B], .bit5E, 5, .e),
    ([0xCB, 0x6C], .bit5H, 5, .h), ([0xCB, 0x6D], .bit5L, 5, .l), ([0xCB, 0x6F], .bit5A, 5, .a),
    ([0xCB, 0x70], .bit6B, 6, .b), ([0xCB, 0x71], .bit6C, 6, .c), ([0xCB, 0x72], .bit6D, 6, .d),
    ([0xCB, 0x73], .bit6E, 6, .e), ([0xCB, 0x74], .bit6H, 6, .h), ([0xCB, 0x75], .bit6L, 6, .l),
    ([0xCB, 0x77], .bit6A, 6, .a), ([0xCB, 0x78], .bit7B, 7, .b), ([0xCB, 0x79], .bit7C, 7, .c),
    ([0xCB, 0x7A], .bit7D, 7, .d), ([0xCB, 0x7B], .bit7E, 7, .e), ([0xCB, 0x7C], .bit7H, 7, .h),
    ([0xCB, 0x7D], .bit7L, 7, .l), ([0xCB, 0x7F], .bit7A, 7, .a)]

/-- R318: BIT of the byte at HL, with the bit number. -/
def bitMems : List (List Byte × Instr × Nat) :=
  [
    ([0xCB, 0x46], .bit0MemHl, 0), ([0xCB, 0x4E], .bit1MemHl, 1), ([0xCB, 0x56], .bit2MemHl, 2),
    ([0xCB, 0x5E], .bit3MemHl, 3), ([0xCB, 0x66], .bit4MemHl, 4), ([0xCB, 0x6E], .bit5MemHl, 5),
    ([0xCB, 0x76], .bit6MemHl, 6), ([0xCB, 0x7E], .bit7MemHl, 7)]

/-- R319: RES of a register, with the bit number. -/
def resRegs : List (List Byte × Instr × Nat × Reg) :=
  [
    ([0xCB, 0x80], .res0B, 0, .b), ([0xCB, 0x81], .res0C, 0, .c), ([0xCB, 0x82], .res0D, 0, .d),
    ([0xCB, 0x83], .res0E, 0, .e), ([0xCB, 0x84], .res0H, 0, .h), ([0xCB, 0x85], .res0L, 0, .l),
    ([0xCB, 0x87], .res0A, 0, .a), ([0xCB, 0x88], .res1B, 1, .b), ([0xCB, 0x89], .res1C, 1, .c),
    ([0xCB, 0x8A], .res1D, 1, .d), ([0xCB, 0x8B], .res1E, 1, .e), ([0xCB, 0x8C], .res1H, 1, .h),
    ([0xCB, 0x8D], .res1L, 1, .l), ([0xCB, 0x8F], .res1A, 1, .a), ([0xCB, 0x90], .res2B, 2, .b),
    ([0xCB, 0x91], .res2C, 2, .c), ([0xCB, 0x92], .res2D, 2, .d), ([0xCB, 0x93], .res2E, 2, .e),
    ([0xCB, 0x94], .res2H, 2, .h), ([0xCB, 0x95], .res2L, 2, .l), ([0xCB, 0x97], .res2A, 2, .a),
    ([0xCB, 0x98], .res3B, 3, .b), ([0xCB, 0x99], .res3C, 3, .c), ([0xCB, 0x9A], .res3D, 3, .d),
    ([0xCB, 0x9B], .res3E, 3, .e), ([0xCB, 0x9C], .res3H, 3, .h), ([0xCB, 0x9D], .res3L, 3, .l),
    ([0xCB, 0x9F], .res3A, 3, .a), ([0xCB, 0xA0], .res4B, 4, .b), ([0xCB, 0xA1], .res4C, 4, .c),
    ([0xCB, 0xA2], .res4D, 4, .d), ([0xCB, 0xA3], .res4E, 4, .e), ([0xCB, 0xA4], .res4H, 4, .h),
    ([0xCB, 0xA5], .res4L, 4, .l), ([0xCB, 0xA7], .res4A, 4, .a), ([0xCB, 0xA8], .res5B, 5, .b),
    ([0xCB, 0xA9], .res5C, 5, .c), ([0xCB, 0xAA], .res5D, 5, .d), ([0xCB, 0xAB], .res5E, 5, .e),
    ([0xCB, 0xAC], .res5H, 5, .h), ([0xCB, 0xAD], .res5L, 5, .l), ([0xCB, 0xAF], .res5A, 5, .a),
    ([0xCB, 0xB0], .res6B, 6, .b), ([0xCB, 0xB1], .res6C, 6, .c), ([0xCB, 0xB2], .res6D, 6, .d),
    ([0xCB, 0xB3], .res6E, 6, .e), ([0xCB, 0xB4], .res6H, 6, .h), ([0xCB, 0xB5], .res6L, 6, .l),
    ([0xCB, 0xB7], .res6A, 6, .a), ([0xCB, 0xB8], .res7B, 7, .b), ([0xCB, 0xB9], .res7C, 7, .c),
    ([0xCB, 0xBA], .res7D, 7, .d), ([0xCB, 0xBB], .res7E, 7, .e), ([0xCB, 0xBC], .res7H, 7, .h),
    ([0xCB, 0xBD], .res7L, 7, .l), ([0xCB, 0xBF], .res7A, 7, .a)]

/-- R320: RES of the byte at HL, with the bit number. -/
def resMems : List (List Byte × Instr × Nat) :=
  [
    ([0xCB, 0x86], .res0MemHl, 0), ([0xCB, 0x8E], .res1MemHl, 1), ([0xCB, 0x96], .res2MemHl, 2),
    ([0xCB, 0x9E], .res3MemHl, 3), ([0xCB, 0xA6], .res4MemHl, 4), ([0xCB, 0xAE], .res5MemHl, 5),
    ([0xCB, 0xB6], .res6MemHl, 6), ([0xCB, 0xBE], .res7MemHl, 7)]

/-- R321: SET of a register, with the bit number. -/
def setRegs : List (List Byte × Instr × Nat × Reg) :=
  [
    ([0xCB, 0xC0], .set0B, 0, .b), ([0xCB, 0xC1], .set0C, 0, .c), ([0xCB, 0xC2], .set0D, 0, .d),
    ([0xCB, 0xC3], .set0E, 0, .e), ([0xCB, 0xC4], .set0H, 0, .h), ([0xCB, 0xC5], .set0L, 0, .l),
    ([0xCB, 0xC7], .set0A, 0, .a), ([0xCB, 0xC8], .set1B, 1, .b), ([0xCB, 0xC9], .set1C, 1, .c),
    ([0xCB, 0xCA], .set1D, 1, .d), ([0xCB, 0xCB], .set1E, 1, .e), ([0xCB, 0xCC], .set1H, 1, .h),
    ([0xCB, 0xCD], .set1L, 1, .l), ([0xCB, 0xCF], .set1A, 1, .a), ([0xCB, 0xD0], .set2B, 2, .b),
    ([0xCB, 0xD1], .set2C, 2, .c), ([0xCB, 0xD2], .set2D, 2, .d), ([0xCB, 0xD3], .set2E, 2, .e),
    ([0xCB, 0xD4], .set2H, 2, .h), ([0xCB, 0xD5], .set2L, 2, .l), ([0xCB, 0xD7], .set2A, 2, .a),
    ([0xCB, 0xD8], .set3B, 3, .b), ([0xCB, 0xD9], .set3C, 3, .c), ([0xCB, 0xDA], .set3D, 3, .d),
    ([0xCB, 0xDB], .set3E, 3, .e), ([0xCB, 0xDC], .set3H, 3, .h), ([0xCB, 0xDD], .set3L, 3, .l),
    ([0xCB, 0xDF], .set3A, 3, .a), ([0xCB, 0xE0], .set4B, 4, .b), ([0xCB, 0xE1], .set4C, 4, .c),
    ([0xCB, 0xE2], .set4D, 4, .d), ([0xCB, 0xE3], .set4E, 4, .e), ([0xCB, 0xE4], .set4H, 4, .h),
    ([0xCB, 0xE5], .set4L, 4, .l), ([0xCB, 0xE7], .set4A, 4, .a), ([0xCB, 0xE8], .set5B, 5, .b),
    ([0xCB, 0xE9], .set5C, 5, .c), ([0xCB, 0xEA], .set5D, 5, .d), ([0xCB, 0xEB], .set5E, 5, .e),
    ([0xCB, 0xEC], .set5H, 5, .h), ([0xCB, 0xED], .set5L, 5, .l), ([0xCB, 0xEF], .set5A, 5, .a),
    ([0xCB, 0xF0], .set6B, 6, .b), ([0xCB, 0xF1], .set6C, 6, .c), ([0xCB, 0xF2], .set6D, 6, .d),
    ([0xCB, 0xF3], .set6E, 6, .e), ([0xCB, 0xF4], .set6H, 6, .h), ([0xCB, 0xF5], .set6L, 6, .l),
    ([0xCB, 0xF7], .set6A, 6, .a), ([0xCB, 0xF8], .set7B, 7, .b), ([0xCB, 0xF9], .set7C, 7, .c),
    ([0xCB, 0xFA], .set7D, 7, .d), ([0xCB, 0xFB], .set7E, 7, .e), ([0xCB, 0xFC], .set7H, 7, .h),
    ([0xCB, 0xFD], .set7L, 7, .l), ([0xCB, 0xFF], .set7A, 7, .a)]

/-- R322: SET of the byte at HL, with the bit number. -/
def setMems : List (List Byte × Instr × Nat) :=
  [
    ([0xCB, 0xC6], .set0MemHl, 0), ([0xCB, 0xCE], .set1MemHl, 1), ([0xCB, 0xD6], .set2MemHl, 2),
    ([0xCB, 0xDE], .set3MemHl, 3), ([0xCB, 0xE6], .set4MemHl, 4), ([0xCB, 0xEE], .set5MemHl, 5),
    ([0xCB, 0xF6], .set6MemHl, 6), ([0xCB, 0xFE], .set7MemHl, 7)]

/-- The Processor after an addition to A of a byte and a carry, both as numbers (R200, `add8`). -/
def added (s : State) (b c : Nat) : Processor :=
  { s.cpu with
    a := BitVec.ofNat 8 (s.cpu.a.toNat + b + c)
    f := flagByte (decide ((s.cpu.a.toNat + b + c) % 256 = 0)) false (decide (0x0F < s.cpu.a.toNat % 16 + b % 16 + c))
      (decide (0xFF < s.cpu.a.toNat + b + c)) }

/-- The flags of a subtraction from A: the borrows (R200, `sub8`). -/
def borrows (s : State) (b c : Nat) : Byte :=
  flagByte (decide (((s.cpu.a.toNat : Int) - b - c) % 256 = 0)) true (decide (s.cpu.a.toNat % 16 < b % 16 + c))
    (decide (s.cpu.a.toNat < b + c))

/-- R481: a channel after the length clock, by its control register. -/
def lengthClocked (control : Byte) (c : Channel) : Channel :=
  if control.getLsbD 6 = true ∧ 0 < c.length then
    { c with length := c.length - 1, enabled := if c.length = 1 then false else c.enabled }
  else c

/-- R482: an envelope after its clock, by its register. -/
def envelopeClocked (r : Byte) (e : Envelope) : Envelope :=
  let ep := r.toNat % 8
  if ep = 0 then e
  else if 1 < e.envTimer then { e with envTimer := e.envTimer - 1 }
  else if r.getLsbD 3 then { envTimer := ep, volume := if e.volume < 15 then e.volume + 1 else e.volume }
  else { envTimer := ep, volume := e.volume - 1 }

/-- R423: the colour of column `k` in row `r` of the tile at an address: the high plane's bit, then the low plane's. -/
def tileColour (m : Memory) (tileAddr r k : Nat) : BitVec 2 :=
  BitVec.ofNat 2 ((m.read (tileAddr + 2 * r + 1)).toNat / 2 ^ (7 - k) % 2 * 2 +
    (m.read (tileAddr + 2 * r)).toNat / 2 ^ (7 - k) % 2)

/-- R386, R387: TIMA, and whether it has overflowed, after `n` increments with TMA `tma`. -/
def timaTicks (tma : Byte) : Nat → Byte × Bool → Byte × Bool
  | 0, p => p
  | n + 1, p => timaTicks tma n (if p.1 = 0xFF then (tma, true) else (p.1 + 1, p.2))

/-- R30, R462: the cells of the raw byte array that no rule reads or writes: those under the cartridge windows, the echo, the
unusable region, the joypad register and the sound block. -/
def unusedCell (a : Nat) : Bool :=
  a < 0x8000 ∨ 0xA000 ≤ a ∧ a < 0xC000 ∨ 0xE000 ≤ a ∧ a < 0xFE00 ∨ 0xFEA0 ≤ a ∧ a ≤ 0xFF00 ∨ 0xFF10 ≤ a ∧ a ≤ 0xFF3F

/-- The last byte that a list of overriding bytes gives an address, 0 where it gives none. -/
def listed (l : List (Nat × Byte)) (a : Nat) : Byte := ((l.reverse.find? (fun p => p.1 == a)).map (·.2)).getD 0

/-- The two stores of a push: the high byte at SP - 1, then the low byte at SP - 2 (R180). -/
def pushed (s : State) (w : Word) : List (Word × Byte) := [(s.cpu.sp - 1, hi8 w), (s.cpu.sp - 2, lo8 w)]

/-- The cell of `mem` behind an address that stores plainly: a read returns the byte last written and nothing else happens
(R75 to R79); none for the cartridge windows, the unusable region and the registers with effects of their own (R68). -/
def plainCell (addr : Word) : Option Nat :=
  let a := addr.toNat
  if 0x8000 ≤ a ∧ a < 0xA000 ∨ 0xC000 ≤ a ∧ a < 0xE000 ∨ 0xFE00 ≤ a ∧ a < 0xFEA0 then some a
  else if 0xE000 ≤ a ∧ a < 0xFE00 then some (a - 0x2000)
  else if 0xFF00 < a ∧ a ≠ 0xFF04 ∧ ¬ (0xFF10 ≤ a ∧ a ≤ 0xFF3F) ∧ a ≠ 0xFF41 ∧ a ≠ 0xFF44 ∧ a ≠ 0xFF46 then some a
  else none

/-- The byte stores that an instruction makes, in order, each an address and a byte, in a state whose PC is past the
instruction; every other instruction makes none (R67, R180). -/
def stores (s : State) : Instr → List (Word × Byte)
  | .ldMemBcA => [(s.cpu.b ++ s.cpu.c, s.cpu.a)]
  | .ldMemNnSp nn => [(nn, lo8 s.cpu.sp), (nn + 1, hi8 s.cpu.sp)]
  | .ldMemDeA => [(s.cpu.d ++ s.cpu.e, s.cpu.a)]
  | .ldMemHlIncA | .ldMemHlDecA | .ldMemHlA => [(s.cpu.h ++ s.cpu.l, s.cpu.a)]
  | .incMemHl => [(s.cpu.h ++ s.cpu.l, memRead s (s.cpu.h ++ s.cpu.l) + 1)]
  | .decMemHl => [(s.cpu.h ++ s.cpu.l, memRead s (s.cpu.h ++ s.cpu.l) - 1)]
  | .ldMemHlN n => [(s.cpu.h ++ s.cpu.l, n)]
  | .ldMemHlB => [(s.cpu.h ++ s.cpu.l, s.cpu.b)]
  | .ldMemHlC => [(s.cpu.h ++ s.cpu.l, s.cpu.c)]
  | .ldMemHlD => [(s.cpu.h ++ s.cpu.l, s.cpu.d)]
  | .ldMemHlE => [(s.cpu.h ++ s.cpu.l, s.cpu.e)]
  | .ldMemHlH => [(s.cpu.h ++ s.cpu.l, s.cpu.h)]
  | .ldMemHlL => [(s.cpu.h ++ s.cpu.l, s.cpu.l)]
  | .callNzNn _ => if !s.cpu.f.getLsbD 7 then pushed s s.cpu.pc else []
  | .pushBc => pushed s (s.cpu.b ++ s.cpu.c)
  | .rst00 | .callNn _ | .rst08 | .rst10 | .rst18 | .rst20 | .rst28 | .rst30 | .rst38 => pushed s s.cpu.pc
  | .callZNn _ => if s.cpu.f.getLsbD 7 then pushed s s.cpu.pc else []
  | .callNcNn _ => if !s.cpu.f.getLsbD 4 then pushed s s.cpu.pc else []
  | .pushDe => pushed s (s.cpu.d ++ s.cpu.e)
  | .callCNn _ => if s.cpu.f.getLsbD 4 then pushed s s.cpu.pc else []
  | .ldhMemNA n => [(0xFF#8 ++ n, s.cpu.a)]
  | .ldhMemCA => [(0xFF#8 ++ s.cpu.c, s.cpu.a)]
  | .pushHl => pushed s (s.cpu.h ++ s.cpu.l)
  | .ldMemNnA nn => [(nn, s.cpu.a)]
  | .pushAf => pushed s (s.cpu.a ++ s.cpu.f)
  | .rlcMemHl => [(s.cpu.h ++ s.cpu.l, BitVec.ofNat 8 (shifted 0 (memRead s (s.cpu.h ++ s.cpu.l)).toNat (carry s)))]
  | .rrcMemHl => [(s.cpu.h ++ s.cpu.l, BitVec.ofNat 8 (shifted 1 (memRead s (s.cpu.h ++ s.cpu.l)).toNat (carry s)))]
  | .rlMemHl => [(s.cpu.h ++ s.cpu.l, BitVec.ofNat 8 (shifted 2 (memRead s (s.cpu.h ++ s.cpu.l)).toNat (carry s)))]
  | .rrMemHl => [(s.cpu.h ++ s.cpu.l, BitVec.ofNat 8 (shifted 3 (memRead s (s.cpu.h ++ s.cpu.l)).toNat (carry s)))]
  | .slaMemHl => [(s.cpu.h ++ s.cpu.l, BitVec.ofNat 8 (shifted 4 (memRead s (s.cpu.h ++ s.cpu.l)).toNat (carry s)))]
  | .sraMemHl => [(s.cpu.h ++ s.cpu.l, BitVec.ofNat 8 (shifted 5 (memRead s (s.cpu.h ++ s.cpu.l)).toNat (carry s)))]
  | .swapMemHl => [(s.cpu.h ++ s.cpu.l, BitVec.ofNat 8 (shifted 6 (memRead s (s.cpu.h ++ s.cpu.l)).toNat (carry s)))]
  | .srlMemHl => [(s.cpu.h ++ s.cpu.l, BitVec.ofNat 8 (shifted 7 (memRead s (s.cpu.h ++ s.cpu.l)).toNat (carry s)))]
  | .res0MemHl => [(s.cpu.h ++ s.cpu.l, memRead s (s.cpu.h ++ s.cpu.l) &&& ~~~(1#8 <<< 0))]
  | .res1MemHl => [(s.cpu.h ++ s.cpu.l, memRead s (s.cpu.h ++ s.cpu.l) &&& ~~~(1#8 <<< 1))]
  | .res2MemHl => [(s.cpu.h ++ s.cpu.l, memRead s (s.cpu.h ++ s.cpu.l) &&& ~~~(1#8 <<< 2))]
  | .res3MemHl => [(s.cpu.h ++ s.cpu.l, memRead s (s.cpu.h ++ s.cpu.l) &&& ~~~(1#8 <<< 3))]
  | .res4MemHl => [(s.cpu.h ++ s.cpu.l, memRead s (s.cpu.h ++ s.cpu.l) &&& ~~~(1#8 <<< 4))]
  | .res5MemHl => [(s.cpu.h ++ s.cpu.l, memRead s (s.cpu.h ++ s.cpu.l) &&& ~~~(1#8 <<< 5))]
  | .res6MemHl => [(s.cpu.h ++ s.cpu.l, memRead s (s.cpu.h ++ s.cpu.l) &&& ~~~(1#8 <<< 6))]
  | .res7MemHl => [(s.cpu.h ++ s.cpu.l, memRead s (s.cpu.h ++ s.cpu.l) &&& ~~~(1#8 <<< 7))]
  | .set0MemHl => [(s.cpu.h ++ s.cpu.l, memRead s (s.cpu.h ++ s.cpu.l) ||| (1#8 <<< 0))]
  | .set1MemHl => [(s.cpu.h ++ s.cpu.l, memRead s (s.cpu.h ++ s.cpu.l) ||| (1#8 <<< 1))]
  | .set2MemHl => [(s.cpu.h ++ s.cpu.l, memRead s (s.cpu.h ++ s.cpu.l) ||| (1#8 <<< 2))]
  | .set3MemHl => [(s.cpu.h ++ s.cpu.l, memRead s (s.cpu.h ++ s.cpu.l) ||| (1#8 <<< 3))]
  | .set4MemHl => [(s.cpu.h ++ s.cpu.l, memRead s (s.cpu.h ++ s.cpu.l) ||| (1#8 <<< 4))]
  | .set5MemHl => [(s.cpu.h ++ s.cpu.l, memRead s (s.cpu.h ++ s.cpu.l) ||| (1#8 <<< 5))]
  | .set6MemHl => [(s.cpu.h ++ s.cpu.l, memRead s (s.cpu.h ++ s.cpu.l) ||| (1#8 <<< 6))]
  | .set7MemHl => [(s.cpu.h ++ s.cpu.l, memRead s (s.cpu.h ++ s.cpu.l) ||| (1#8 <<< 7))]
  | _ => []

/-- The bank that the external RAM window reaches, if RAM is enabled and a bank is selected (R95 to R99). -/
def ramBank : BankController → Option Nat
  | .flat => none
  | .mbc1 true _ upper true => some upper.toNat
  | .mbc1 true _ _ false => some 0
  | .mbc3 true _ sel => if sel.toNat ≤ 7 then some sel.toNat else none
  | .mbc5 true _ bank => some bank.toNat
  | _ => none

/-- Run an instruction `n` times, PC aside, as long as each answers a next state. -/
def times (i : Instr) : Nat → State → Result
  | 0, s => .next s
  | n + 1, s =>
    match exec i s with
    | .next t => times i n t
    | r => r

/-- A packed decimal byte: both nibbles are decimal digits (R255). -/
def isBcd (b : Byte) : Bool := decide (b.toNat / 16 ≤ 9) && decide (b.toNat % 16 ≤ 9)

/-- The number that a packed decimal byte writes. -/
def bcd (b : Byte) : Nat := b.toNat / 16 * 10 + b.toNat % 16

/-- The read masks of R468, 0xFF10 first. -/
def soundMasks : List Byte :=
  [0x80, 0x3F, 0x00, 0xFF, 0xBF, 0xFF, 0x3F, 0x00, 0xFF, 0xBF, 0x7F, 0xFF, 0x9F, 0xFF, 0xBF, 0xFF, 0xFF, 0x00, 0x00, 0xBF,
    0x00, 0x00]

end Sys2Proof.Claims

open Sys2Proof Sys2Proof.Machine Sys2Proof.Claims

/-- Bytes written out bit by bit from the encodings of the rules, at least one for every family, decode to the instruction
they stand for, and words of the opcode table are read as it numbers them: 0xCB37 with its first byte most significant
(R139). That the 24-bit word 0x00C3 is JP 0x0000, the first byte least significant and the immediate zero, is the model's
choice of log entry 8: R139 numbers opcode bytes only. (spec/30_encoding.md R130, R131, R139, log entry 8 for the 24-bit
word) -/
def Obligations.DecodesSpecWords : Prop :=
  decode [0b01111000] = .ok (.ldAB, []) ∧ decode [0b00101110, 0xFF] = .ok (.ldLN 0xFF, []) ∧
    decode [0b01110101] = .ok (.ldMemHlL, []) ∧ decode [0xEA, 0x00, 0xC0] = .ok (.ldMemNnA 0xC000, []) ∧
    decode [0b00110001, 0xF0, 0xDF] = .ok (.ldSpNn 0xDFF0, []) ∧ decode [0b11110101] = .ok (.pushAf, []) ∧
    decode [0b10001011] = .ok (.adcAE, []) ∧ decode [0b11111110, 0x90] = .ok (.cpN 0x90, []) ∧
    decode [0b00110101] = .ok (.decMemHl, []) ∧ decode [0b00101001] = .ok (.addHlHl, []) ∧
    decode [0xE8, 0xF8] = .ok (.addSpE 0xF8, []) ∧ decode [0x27] = .ok (.daa, []) ∧ decode [0x1F] = .ok (.rra, []) ∧
    decode [0b00110000, 0x05] = .ok (.jrNcE 0x05, []) ∧ decode [0b11001100, 0x00, 0x20] = .ok (.callZNn 0x2000, []) ∧
    decode [0b11101111] = .ok (.rst28, []) ∧ decode [0b01110110] = .ok (.halt, []) ∧ decode [0x10, 0x55] = .ok (.stop 0x55, []) ∧
    decode [0xED] = .ok (.undefinedED, []) ∧ decode [0xCB, 0b00110111] = .ok (.swapA, []) ∧
    decode [0xCB, 0b01100101] = .ok (.bit4L, []) ∧ decode [0xCB, 0b10011110] = .ok (.res3MemHl, []) ∧
    decode [0xCB, 0b11011111] = .ok (.set3A, []) ∧ decodeTableWord 16 0xCB37 = some .swapA ∧
    decodeTableWord 8 0x78 = some .ldAB ∧ decodeTableWord 24 0x00C3 = some (.jpNn 0x0000)

/-- For every first byte the length in bytes is 3 for the seventeen values R134 lists, 2 for the twenty-seven values it
lists (the prefix among them), and 1 for every other value. (R134) -/
def Obligations.LengthByFirstByte : Prop :=
  ∀ b : Byte, (firstByte b).length =
    if b ∈ [0x01, 0x11, 0x21, 0x31, 0x08, 0xC2, 0xC3, 0xC4, 0xCA, 0xCC, 0xCD, 0xD2, 0xD4, 0xDA, 0xDC, 0xEA, 0xFA] then 3
    else if b ∈ [0x06, 0x0E, 0x16, 0x1E, 0x26, 0x2E, 0x36, 0x3E, 0x10, 0x18, 0x20, 0x28, 0x30, 0x38, 0xC6, 0xCE, 0xD6,
      0xDE, 0xE6, 0xEE, 0xF6, 0xFE, 0xE0, 0xF0, 0xE8, 0xF8, 0xCB] then 2
    else 1

/-- For every well-formed instruction, with its immediate at every value, decoding its bytes followed by any bytes gives the
instruction and leaves those bytes: no bit of an encoding is dropped, and no encoding is shadowed by another.
(spec/30_encoding.md R133, R139) -/
def Obligations.DecodeOfEncode : Prop :=
  ∀ (i : Instr) (rest : List Byte), i.wellFormed = true → decode (encode i ++ rest) = .ok (i, rest)

/-- Whatever three bytes are fetched, the instruction they decode to is well formed and its encoding is the first bytes of
the three, as many as the first byte gives: every byte string has one meaning and every bit of an instruction is
significant. (spec/30_encoding.md R121, R133, R139) -/
def Obligations.EncodeOfDecode : Prop :=
  ∀ b0 b1 b2 : Byte, (decodeBytes b0 b1 b2).wellFormed = true ∧
    encode (decodeBytes b0 b1 b2) = [b0, b1, b2].take (firstByte b0).length

/-- The prefix row does what the fields of its second byte say (R129, R300), and that is what the prefixed instruction of
that second byte does, in every state; it completes for each of the 256 second bytes. (spec/46_system.md R294,
spec/47_cb_prefix.md R300) -/
def Obligations.PrefixRowRunsSelected : Prop :=
  ∀ (op2 : Byte) (s : State), exec (.prefixCb op2) s = exec (prefixedInstr op2) s ∧ ∃ t, exec (.prefixCb op2) s = .next t

/-- Each register is read and written by itself, a write leaving the other six, F, SP, PC, IME and the halted flag as they
were, and the pairs BC, DE and HL are views: reading one gives 256 times the first register plus the second, writing one
writes its high byte to the first and its low byte to the second. (spec/10_state.md R20, R21) -/
def Obligations.RegistersAndPairs : Prop :=
  (∀ (p : Processor) (r x : Reg) (v : Byte), (p.setReg r v).reg x = if x = r then v else p.reg x) ∧
    (∀ (p : Processor) (r : Reg) (v : Byte), (p.setReg r v).f = p.f ∧ (p.setReg r v).sp = p.sp ∧ (p.setReg r v).pc = p.pc ∧
      (p.setReg r v).ime = p.ime ∧ (p.setReg r v).halted = p.halted) ∧
    (∀ p : Processor, [Reg.b, .c, .d, .e, .h, .l, .a].map p.reg = [p.b, p.c, p.d, p.e, p.h, p.l, p.a]) ∧
    ∀ (p : Processor) (w : Word),
      (p.pair .bc).toNat = p.b.toNat * 256 + p.c.toNat ∧ (p.pair .de).toNat = p.d.toNat * 256 + p.e.toNat ∧
      (p.pair .hl).toNat = p.h.toNat * 256 + p.l.toNat ∧
      p.setPair .bc w = { p with b := BitVec.ofNat 8 (w.toNat / 256), c := BitVec.ofNat 8 (w.toNat % 256) } ∧
      p.setPair .de w = { p with d := BitVec.ofNat 8 (w.toNat / 256), e := BitVec.ofNat 8 (w.toNat % 256) } ∧
      p.setPair .hl w = { p with h := BitVec.ofNat 8 (w.toNat / 256), l := BitVec.ofNat 8 (w.toNat % 256) }

/-- The bytes of each of the 49 loads from register to register and of the seven immediate loads decode to it, and it
completes: the destination holds the source or the immediate, the cost is 4 or 8, and nothing else changes. (R150, R151) -/
def Obligations.RegisterLoads : Prop :=
  (∀ row ∈ regLoads, ∀ s : State, decode row.1 = .ok (row.2.1, []) ∧
      exec row.2.1 s = .next (after s (s.cpu.setReg row.2.2.1 (s.cpu.reg row.2.2.2)) 4)) ∧
    ∀ (n : Byte), ∀ row ∈ immLoads n, ∀ s : State, decode row.1 = .ok (row.2.1, []) ∧
      exec row.2.1 s = .next (after s (s.cpu.setReg row.2.2 n) 8)

/-- The bytes of each load of a byte from (HL), (BC), (DE), the high page or an absolute address decode to it, and it
completes: the destination holds what the bus reads at the address, the cost is the rule's, and nothing else changes, memory
included. (R152, R155, R156, R159, R161, R163) -/
def Obligations.MemoryLoads : Prop :=
  ∀ (n : Byte) (nn : Word), ∀ row ∈ memLoads n nn, ∀ s : State, decode row.1 = .ok (row.2.1, []) ∧
    exec row.2.1 s = .next (after s (s.cpu.setReg row.2.2.1 (memRead s (row.2.2.2.1 s))) row.2.2.2.2)

/-- The bytes of each store of a byte to (HL), (BC), (DE), the high page or an absolute address decode to it, and it
completes: the state is that of one bus write of the byte at the address, no register changes, and the cost is the rule's.
(R153, R154, R157, R158, R160, R162, R164) -/
def Obligations.MemoryStores : Prop :=
  ∀ (n : Byte) (nn : Word), ∀ row ∈ memStores n nn, ∀ s : State, decode row.1 = .ok (row.2.1, []) ∧
    exec row.2.1 s = .next (after (memWrite s (row.2.2.1 s) (row.2.2.2.1 s)) s.cpu row.2.2.2.2)

/-- Each of the four completes at a cost of 8: the byte is read or stored at the old HL, HL then moves by one modulo 65536,
and no flag changes. (R165, R166, R167, R168) -/
def Obligations.PointerMovingLoads : Prop :=
  ∀ s : State, let hl := s.cpu.h ++ s.cpu.l
    (decode [0x2A] = .ok (.ldAMemHlInc, []) ∧ exec .ldAMemHlInc s =
      .next (after s { s.cpu with a := memRead s hl, h := hi8 (hl + 1), l := lo8 (hl + 1) } 8)) ∧
    (decode [0x3A] = .ok (.ldAMemHlDec, []) ∧ exec .ldAMemHlDec s =
      .next (after s { s.cpu with a := memRead s hl, h := hi8 (hl - 1), l := lo8 (hl - 1) } 8)) ∧
    (decode [0x22] = .ok (.ldMemHlIncA, []) ∧ exec .ldMemHlIncA s =
      .next (after (memWrite s hl s.cpu.a) { s.cpu with h := hi8 (hl + 1), l := lo8 (hl + 1) } 8)) ∧
    (decode [0x32] = .ok (.ldMemHlDecA, []) ∧ exec .ldMemHlDecA s =
      .next (after (memWrite s hl s.cpu.a) { s.cpu with h := hi8 (hl - 1), l := lo8 (hl - 1) } 8))

/-- LD rr,nn, LD SP,HL and LD (nn),SP complete with the pair written, or SP stored low byte first; LD HL,SP+e and ADD SP,e
complete with the signed sum modulo 65536, Z and N clear, and the half-carry and carry those of the unsigned addition of the
raw byte to the low byte of the old SP. Nothing else changes. (R181, R182, R183, R186, R243) -/
def Obligations.Loads16 : Prop :=
  (∀ nn : Word, ∀ row ∈ pairLoads nn, ∀ s : State, decode row.1 = .ok (row.2.1, []) ∧
      exec row.2.1 s = .next (after s (row.2.2 s) 12)) ∧
    (∀ s : State, decode [0xF9] = .ok (.ldSpHl, []) ∧
      exec .ldSpHl s = .next (after s { s.cpu with sp := s.cpu.h ++ s.cpu.l } 8)) ∧
    (∀ (nn : Word) (s : State), decode [0x08, lo8 nn, hi8 nn] = .ok (.ldMemNnSp nn, []) ∧
      exec (.ldMemNnSp nn) s =
        .next (after (memWrite (memWrite s nn (lo8 s.cpu.sp)) (nn + 1) (hi8 s.cpu.sp)) s.cpu 20)) ∧
    ∀ (e : Byte) (s : State),
      let sum := BitVec.ofInt 16 (s.cpu.sp.toNat + e.toInt)
      let f := flagByte false false (decide (0x0F < s.cpu.sp.toNat % 16 + e.toNat % 16))
        (decide (0xFF < s.cpu.sp.toNat % 256 + e.toNat))
      (decode [0xF8, e] = .ok (.ldHlSpE e, []) ∧
        exec (.ldHlSpE e) s = .next (after s { s.cpu with h := hi8 sum, l := lo8 sum, f := f } 12)) ∧
      (decode [0xE8, e] = .ok (.addSpE e, []) ∧ exec (.addSpE e) s = .next (after s { s.cpu with sp := sum, f := f } 16))

/-- PUSH completes at a cost of 16 with two bus writes, the high byte of the pair at SP - 1 and then the low byte at SP - 2,
and SP lower by 2; POP completes at a cost of 12 with the byte at SP in the low register and the byte at SP + 1 in the high
one, SP higher by 2, and for AF the low byte masked with 0xF0. (R184, R185) -/
def Obligations.PushAndPop : Prop :=
  (∀ row ∈ pushRows, ∀ s : State, decode row.1 = .ok (row.2.1, []) ∧
      exec row.2.1 s = .next (after
        (memWrite (memWrite s (s.cpu.sp - 1) (row.2.2.1 s.cpu)) (s.cpu.sp - 2) (row.2.2.2 s.cpu))
        { s.cpu with sp := s.cpu.sp - 2 } 16)) ∧
    ∀ row ∈ popRows, ∀ s : State, decode row.1 = .ok (row.2.1, []) ∧
      exec row.2.1 s = .next (after s
        { row.2.2 s.cpu (memRead s (s.cpu.sp + 1)) (memRead s s.cpu.sp) with sp := s.cpu.sp + 2 } 12)

/-- Each of the nine forms of ADD and of ADC completes at a cost of 4 or 8: A holds the sum modulo 256 (for ADC with the old
carry added), Z is set when it is 0, N is clear, the half-carry is set when the low nibbles sum past 15 and the carry when
the sum passes 255. Nothing else changes. (R201, R202, R203, R204, R205, R206) -/
def Obligations.AddAndAdc : Prop :=
  ∀ n : Byte,
    (∀ row ∈ addRows n, ∀ s : State, decode row.1 = .ok (row.2.1, []) ∧
      exec row.2.1 s = .next (after s (added s (row.2.2.1 s).toNat 0) row.2.2.2)) ∧
    ∀ row ∈ adcRows n, ∀ s : State, decode row.1 = .ok (row.2.1, []) ∧
      exec row.2.1 s = .next (after s (added s (row.2.2.1 s).toNat (carry s)) row.2.2.2)

/-- Each of the nine forms of SUB, SBC and CP completes at a cost of 4 or 8: Z is set when the difference (for SBC with the
old carry taken as well) is 0 modulo 256, N is set, the half-carry is the borrow into bit 4 and the carry the borrow out of
bit 7; SUB and SBC leave the difference modulo 256 in A, CP leaves A as it was. Nothing else changes. (R207, R208, R209,
R210, R211, R212, R222, R223, R224) -/
def Obligations.SubSbcAndCp : Prop :=
  ∀ n : Byte,
    (∀ row ∈ subRows n, ∀ s : State, decode row.1 = .ok (row.2.1, []) ∧
      exec row.2.1 s = .next (after s { s.cpu with
        a := BitVec.ofInt 8 (s.cpu.a.toNat - (row.2.2.1 s).toNat), f := borrows s (row.2.2.1 s).toNat 0 } row.2.2.2)) ∧
    (∀ row ∈ sbcRows n, ∀ s : State, decode row.1 = .ok (row.2.1, []) ∧
      exec row.2.1 s = .next (after s { s.cpu with
        a := BitVec.ofInt 8 (s.cpu.a.toNat - (row.2.2.1 s).toNat - carry s)
        f := borrows s (row.2.2.1 s).toNat (carry s) } row.2.2.2)) ∧
    ∀ row ∈ cpRows n, ∀ s : State, decode row.1 = .ok (row.2.1, []) ∧
      exec row.2.1 s = .next (after s { s.cpu with f := borrows s (row.2.2.1 s).toNat 0 } row.2.2.2)

/-- Each of the nine forms of AND, XOR and OR completes at a cost of 4 or 8: A holds the bitwise result, Z is set when it is
0, N and the carry are clear, and the half-carry is set by AND and cleared by XOR and OR. Nothing else changes. (R213, R214,
R215, R216, R217, R218, R219, R220, R221) -/
def Obligations.Logic : Prop :=
  ∀ n : Byte,
    (∀ row ∈ andRows n, ∀ s : State, decode row.1 = .ok (row.2.1, []) ∧
      exec row.2.1 s = .next (after s { s.cpu with
        a := s.cpu.a &&& row.2.2.1 s, f := flagByte (s.cpu.a &&& row.2.2.1 s == 0) false true false } row.2.2.2)) ∧
    (∀ row ∈ xorRows n, ∀ s : State, decode row.1 = .ok (row.2.1, []) ∧
      exec row.2.1 s = .next (after s { s.cpu with
        a := s.cpu.a ^^^ row.2.2.1 s, f := flagByte (s.cpu.a ^^^ row.2.2.1 s == 0) false false false } row.2.2.2)) ∧
    ∀ row ∈ orRows n, ∀ s : State, decode row.1 = .ok (row.2.1, []) ∧
      exec row.2.1 s = .next (after s { s.cpu with
        a := s.cpu.a ||| row.2.2.1 s, f := flagByte (s.cpu.a ||| row.2.2.1 s == 0) false false false } row.2.2.2)

/-- INC and DEC of each register complete at a cost of 4, of the byte at HL at a cost of 12 with one read and then one bus
write of the same address: the value moves by one modulo 256, Z is set when the result is 0, N tells which, the half-carry
is the carry out of or borrow into the low nibble, the carry is unchanged, and nothing else changes. (R225, R226, R227,
R228) -/
def Obligations.IncAndDec : Prop :=
  (∀ row ∈ incRows, ∀ s : State, decode row.1 = .ok (row.2.1, []) ∧
      let v := s.cpu.reg row.2.2
      exec row.2.1 s = .next (after s { s.cpu.setReg row.2.2 (v + 1) with
        f := flagByte (v == 0xFF) false (decide (v.toNat % 16 = 15)) (s.cpu.f.getLsbD 4) } 4)) ∧
    (∀ row ∈ decRows, ∀ s : State, decode row.1 = .ok (row.2.1, []) ∧
      let v := s.cpu.reg row.2.2
      exec row.2.1 s = .next (after s { s.cpu.setReg row.2.2 (v - 1) with
        f := flagByte (v == 0x01) true (decide (v.toNat % 16 = 0)) (s.cpu.f.getLsbD 4) } 4)) ∧
    ∀ s : State,
      let v := memRead s (s.cpu.h ++ s.cpu.l)
      (decode [0x34] = .ok (.incMemHl, []) ∧
        exec .incMemHl s = .next (after (memWrite s (s.cpu.h ++ s.cpu.l) (v + 1)) { s.cpu with
          f := flagByte (v == 0xFF) false (decide (v.toNat % 16 = 15)) (s.cpu.f.getLsbD 4) } 12)) ∧
      (decode [0x35] = .ok (.decMemHl, []) ∧
        exec .decMemHl s = .next (after (memWrite s (s.cpu.h ++ s.cpu.l) (v - 1)) { s.cpu with
          f := flagByte (v == 0x01) true (decide (v.toNat % 16 = 0)) (s.cpu.f.getLsbD 4) } 12))

/-- ADD HL,rr completes at a cost of 8: HL holds the sum modulo 65536, Z is unchanged, N is clear, the half-carry is the
carry out of bit 11 and the carry that out of bit 15. INC rr and DEC rr complete at a cost of 8 with the pair moved by one
modulo 65536 and no flag changed. Nothing else changes. (R240, R241, R242) -/
def Obligations.Arithmetic16 : Prop :=
  (∀ row ∈ addHlRows, ∀ s : State, decode row.1 = .ok (row.2.1, []) ∧
      let hl := (s.cpu.h ++ s.cpu.l).toNat
      let v := (row.2.2 s).toNat
      exec row.2.1 s = .next (after s { s.cpu with
        h := BitVec.ofNat 8 ((hl + v) / 256)
        l := BitVec.ofNat 8 (hl + v)
        f := flagByte (s.cpu.f.getLsbD 7) false (decide (0x0FFF < hl % 4096 + v % 4096)) (decide (0xFFFF < hl + v)) } 8)) ∧
    (∀ row ∈ pairIncs, ∀ s : State, decode row.1 = .ok (row.2.1, []) ∧ exec row.2.1 s = .next (after s (row.2.2 s) 8)) ∧
    ∀ row ∈ pairDecs, ∀ s : State, decode row.1 = .ok (row.2.1, []) ∧ exec row.2.1 s = .next (after s (row.2.2 s) 8)

/-- Each completes at a cost of 4. The rotates of A clear Z whatever the result, and leave the bit that goes out in the
carry; CPL complements A and sets N and the half-carry; SCF sets and CCF inverts the carry, both clearing N and the half-
carry and keeping Z; NOP changes nothing. Nine RLAs restore A and the carry. (R250, R251, R252, R253, R254, R256, R257,
R258) -/
def Obligations.RotatesAndFlagInstructions : Prop :=
  (∀ row ∈ accRotates, ∀ s : State, decode row.1 = .ok (row.2.1, []) ∧
      exec row.2.1 s = .next (after s { s.cpu with
        a := BitVec.ofNat 8 (row.2.2.1 s.cpu.a.toNat (carry s))
        f := flagByte false false false (row.2.2.2 s.cpu.a.toNat) } 4)) ∧
    (∀ s : State,
      let z := s.cpu.f.getLsbD 7
      let c := s.cpu.f.getLsbD 4
      (decode [0x00] = .ok (.nop, []) ∧ exec .nop s = .next (after s s.cpu 4)) ∧
      (decode [0x2F] = .ok (.cpl, []) ∧
        exec .cpl s = .next (after s { s.cpu with a := s.cpu.a ^^^ 0xFF, f := flagByte z true true c } 4)) ∧
      (decode [0x37] = .ok (.scf, []) ∧ exec .scf s = .next (after s { s.cpu with f := flagByte z false false true } 4)) ∧
      (decode [0x3F] = .ok (.ccf, []) ∧ exec .ccf s = .next (after s { s.cpu with f := flagByte z false false (!c) } 4))) ∧
    ∀ s : State, times .rla 9 s =
      .next (after s { s.cpu with f := flagByte false false false (s.cpu.f.getLsbD 4) } 4)

/-- DAA completes at a cost of 4 with A, Z, the half-carry and the carry as the pseudocode of R255 gives them and N kept.
After an ADD of two packed decimal bytes it leaves the last two digits of their decimal sum and the carry says whether the
sum passed 99; after a SUB it leaves the last two digits of the difference and the carry says whether it went below 0.
(R255) -/
def Obligations.DecimalAdjust : Prop :=
  (∀ s : State,
      let n := s.cpu.f.getLsbD 6
      let h := s.cpu.f.getLsbD 5
      let c := s.cpu.f.getLsbD 4
      let a := s.cpu.a.toNat
      let six := if n then h else h || decide (0x09 < a % 16)
      let sixty := if n then c else c || decide (0x99 < a)
      let adj : Int := (if six then 0x06 else 0x00) + (if sixty then 0x60 else 0x00)
      let r := BitVec.ofInt 8 (if n then a - adj else a + adj)
      decode [0x27] = .ok (.daa, []) ∧ exec .daa s =
        .next (after s { s.cpu with a := r, f := flagByte (r == 0) n false (if n then c else sixty) } 4)) ∧
    ∀ (s : State) (y : Byte), isBcd s.cpu.a = true → isBcd y = true →
      (∃ t u, exec (.addAN y) s = .next t ∧ exec .daa t = .next u ∧
        isBcd u.cpu.a = true ∧ bcd u.cpu.a = (bcd s.cpu.a + bcd y) % 100 ∧
        (u.cpu.f.getLsbD 4 = true ↔ 100 ≤ bcd s.cpu.a + bcd y)) ∧
      (∃ t u, exec (.subN y) s = .next t ∧ exec .daa t = .next u ∧
        isBcd u.cpu.a = true ∧ bcd u.cpu.a = (bcd s.cpu.a + 100 - bcd y) % 100 ∧
        (u.cpu.f.getLsbD 4 = true ↔ bcd s.cpu.a < bcd y))

/-- JP nn, JP cc,nn, JP HL, JR e and JR cc,e complete: when the condition holds PC is the target, for JR the address of the
next instruction plus the signed displacement modulo 65536, otherwise PC stays the address of the next instruction; the
costs are 16 and 12, 4, 12 and 8; no flag changes and nothing else does. (R271, R272, R273, R274, R275) -/
def Obligations.Jumps : Prop :=
  (∀ nn : Word, ∀ row ∈ jumpRows nn, ∀ s : State, decode row.1 = .ok (row.2.1, []) ∧
      exec row.2.1 s = .next (if row.2.2 s then after s { s.cpu with pc := nn } 16 else after s s.cpu 12)) ∧
    (∀ s : State, decode [0xE9] = .ok (.jpHl, []) ∧
      exec .jpHl s = .next (after s { s.cpu with pc := s.cpu.h ++ s.cpu.l } 4)) ∧
    ∀ e : Byte, ∀ row ∈ relRows e, ∀ s : State, decode row.1 = .ok (row.2.1, []) ∧
      exec row.2.1 s = .next (if row.2.2 s then after s { s.cpu with pc := BitVec.ofInt 16 (s.cpu.pc.toNat + e.toInt) } 12
        else after s s.cpu 8)

/-- CALL and RST complete with the address of the next instruction pushed by two bus writes, its high byte first, SP lower
by 2 and PC at the target; a CALL whose condition fails pushes nothing. RET and RETI complete with PC the word at SP, SP
higher by 2, and RETI sets IME; a RET whose condition fails reads nothing. The costs are those of the rules; no flag and
nothing else changes. (R276, R277, R278, R279, R280, R281) -/
def Obligations.CallsAndReturns : Prop :=
  (∀ nn : Word, ∀ row ∈ callRows nn, ∀ s : State, decode row.1 = .ok (row.2.1, []) ∧
      exec row.2.1 s = .next (
        if row.2.2 s then
          after (memWrite (memWrite s (s.cpu.sp - 1) (hi8 s.cpu.pc)) (s.cpu.sp - 2) (lo8 s.cpu.pc))
            { s.cpu with sp := s.cpu.sp - 2, pc := nn } 24
        else after s s.cpu 12)) ∧
    (∀ row ∈ rstRows, ∀ s : State, decode row.1 = .ok (row.2.1, []) ∧
      exec row.2.1 s = .next (
        after (memWrite (memWrite s (s.cpu.sp - 1) (hi8 s.cpu.pc)) (s.cpu.sp - 2) (lo8 s.cpu.pc))
          { s.cpu with sp := s.cpu.sp - 2, pc := row.2.2 } 16)) ∧
    (∀ row ∈ retRows, ∀ s : State, decode row.1 = .ok (row.2.1, []) ∧
      exec row.2.1 s = .next (
        if row.2.2.1 s then
          after s { s.cpu with sp := s.cpu.sp + 2, pc := memRead s (s.cpu.sp + 1) ++ memRead s s.cpu.sp } row.2.2.2
        else after s s.cpu 8)) ∧
    ∀ s : State, decode [0xD9] = .ok (.reti, []) ∧
      exec .reti s = .next (after s { s.cpu with
        sp := s.cpu.sp + 2, pc := memRead s (s.cpu.sp + 1) ++ memRead s s.cpu.sp, ime := true } 16)

/-- HALT, DI and EI complete at a cost of 4 with only the halted flag set or IME written. STOP completes at a cost of 4 with
the halted flag set when STOP_MODE is halt; when STOP_MODE is fault it raises UnimplementedOpcode with 0x10 and the address
of the opcode, PC one past it and nothing else changed. (spec/46_system.md R290, R291, R292, R293) -/
def Obligations.HaltStopDiEi : Prop :=
  (∀ s : State, decode [0x76] = .ok (.halt, []) ∧ exec .halt s = .next (after s { s.cpu with halted := true } 4)) ∧
    (∀ s : State, decode [0xF3] = .ok (.di, []) ∧ exec .di s = .next (after s { s.cpu with ime := false } 4)) ∧
    (∀ s : State, decode [0xFB] = .ok (.ei, []) ∧ exec .ei s = .next (after s { s.cpu with ime := true } 4)) ∧
    ∀ (n : Byte) (s : State), decode [0x10, n] = .ok (.stop n, []) ∧
      (s.cfg.stopMode = .halt → exec (.stop n) s = .next (after s { s.cpu with halted := true } 4)) ∧
      (s.cfg.stopMode = .fault → exec (.stop n) s =
        .fault (.unimplementedOpcode 0x10 (s.cpu.pc - 2) { s with cpu := { s.cpu with pc := s.cpu.pc - 1 } }))

/-- Each of the eleven first bytes with no instruction raises UnimplementedOpcode with that byte and the address it was
fetched from, and the state in which the run ends is the one after the fetch: PC one past the byte, nothing else changed.
(R295) -/
def Obligations.UndefinedOpcodesFault : Prop :=
  ∀ row ∈ undefinedRows, ∀ s : State, decode row.1 = .ok (row.2.1, []) ∧ row.1 = [row.2.2] ∧
    exec row.2.1 s = .fault (.unimplementedOpcode row.2.2 (s.cpu.pc - 1) s)

/-- Each of the eight operations on each of the seven registers completes at a cost of 8, and on the byte at HL at a cost of
16 with one read and then one bus write of the same address: the value and the carry are those of R301 to R316, Z is set
when the value written is 0, N and the half-carry are clear, and nothing else changes. (spec/47_cb_prefix.md R301 to R316)
-/
def Obligations.Shifts : Prop :=
  (∀ row ∈ shiftRegs, ∀ s : State, decode row.1 = .ok (row.2.1, []) ∧
      let v := (s.cpu.reg row.2.2.2).toNat
      let w := shifted row.2.2.1 v (carry s)
      exec row.2.1 s = .next (after s { s.cpu.setReg row.2.2.2 (BitVec.ofNat 8 w) with
        f := flagByte (decide (w = 0)) false false (shiftedOut row.2.2.1 v) } 8)) ∧
    ∀ row ∈ shiftMems, ∀ s : State, decode row.1 = .ok (row.2.1, []) ∧
      let v := (memRead s (s.cpu.h ++ s.cpu.l)).toNat
      let w := shifted row.2.2 v (carry s)
      exec row.2.1 s = .next (after (memWrite s (s.cpu.h ++ s.cpu.l) (BitVec.ofNat 8 w)) { s.cpu with
        f := flagByte (decide (w = 0)) false false (shiftedOut row.2.2 v) } 16)

/-- BIT completes at a cost of 8 (12 for the byte at HL, which is not written): Z is the complement of the bit, N is clear,
the half-carry is set, the carry is unchanged. RES and SET complete at a cost of 8 (16 for the byte at HL, with one read and
then one bus write) with the bit cleared or set, the other bits kept and no flag changed. Nothing else changes. (R317, R318,
R319, R320, R321, R322) -/
def Obligations.BitResSet : Prop :=
  let bit (v : Byte) (b : Nat) := v.toNat / 2 ^ b % 2
  let cleared (v : Byte) (b : Nat) := BitVec.ofNat 8 (v.toNat - 2 ^ b * bit v b)
  let set (v : Byte) (b : Nat) := BitVec.ofNat 8 (v.toNat + 2 ^ b * (1 - bit v b))
  (∀ row ∈ bitRegs, ∀ s : State, decode row.1 = .ok (row.2.1, []) ∧
      exec row.2.1 s = .next (after s { s.cpu with
        f := flagByte (decide (bit (s.cpu.reg row.2.2.2) row.2.2.1 = 0)) false true (s.cpu.f.getLsbD 4) } 8)) ∧
    (∀ row ∈ bitMems, ∀ s : State, decode row.1 = .ok (row.2.1, []) ∧
      exec row.2.1 s = .next (after s { s.cpu with
        f := flagByte (decide (bit (memRead s (s.cpu.h ++ s.cpu.l)) row.2.2 = 0)) false true (s.cpu.f.getLsbD 4) } 12)) ∧
    (∀ row ∈ resRegs, ∀ s : State, decode row.1 = .ok (row.2.1, []) ∧
      exec row.2.1 s = .next (after s (s.cpu.setReg row.2.2.2 (cleared (s.cpu.reg row.2.2.2) row.2.2.1)) 8)) ∧
    (∀ row ∈ resMems, ∀ s : State, decode row.1 = .ok (row.2.1, []) ∧
      exec row.2.1 s = .next (after (memWrite s (s.cpu.h ++ s.cpu.l)
        (cleared (memRead s (s.cpu.h ++ s.cpu.l)) row.2.2)) s.cpu 16)) ∧
    (∀ row ∈ setRegs, ∀ s : State, decode row.1 = .ok (row.2.1, []) ∧
      exec row.2.1 s = .next (after s (s.cpu.setReg row.2.2.2 (set (s.cpu.reg row.2.2.2) row.2.2.1)) 8)) ∧
    ∀ row ∈ setMems, ∀ s : State, decode row.1 = .ok (row.2.1, []) ∧
      exec row.2.1 s = .next (after (memWrite s (s.cpu.h ++ s.cpu.l)
        (set (memRead s (s.cpu.h ++ s.cpu.l)) row.2.2)) s.cpu 16)

/-- If no interrupt is taken (none pending, or IME clear) and the Processor is not left halted (not halted, or an interrupt
pending), and the three bytes that the bus reads at PC decode to an instruction, then the step is that instruction executed
in the state with PC moved past its bytes and the halted flag clear, followed by the three engines advanced by its cycle
count; if it faults, the step is that fault, with the halted flag in the final state as it was before the step, and the
engines are not advanced. (spec/60_exceptions.md R340, R330, spec/70_reset_and_hazards.md R570, spec/10_state.md R26, log
entry 6 for the halted flag of the fault) -/
def Obligations.StepRunsFetched : Prop :=
  ∀ (s : State) (i : Instr) (b0 b1 b2 : Byte),
    pending s = 0 ∨ s.cpu.ime = false → s.cpu.halted = false ∨ pending s ≠ 0 →
    memRead s s.cpu.pc = b0 → memRead s (s.cpu.pc + 1) = b1 → memRead s (s.cpu.pc + 2) = b2 → decodeBytes b0 b1 b2 = i →
    step s =
      match exec i { s with cpu := { s.cpu with
        pc := s.cpu.pc + BitVec.ofNat 16 (firstByte b0).length, halted := false } } with
      | .next t => .next (advanceEngines t.out.cycles t)
      | .fault (.unimplementedOpcode op addr u) =>
        .fault (.unimplementedOpcode op addr { u with cpu := { u.cpu with halted := s.cpu.halted } })
      | .refused r => .refused r

/-- With IME set and source b enabled and requested while no lower-numbered source is, executeStep takes the interrupt of b
and executes no instruction: IME and the halted flag are clear, the one bit of IF is cleared, PC is pushed by two bus writes
with its high byte first, SP is lower by 2, PC is 0x0040 + 8 b, the cost is 20, and nothing else changes. (R341) -/
def Obligations.InterruptDispatch : Prop :=
  ∀ (s : State) (b : Fin 5), s.cpu.ime = true →
    (s.mem.read 0xFFFF &&& s.mem.read 0xFF0F).getLsbD b = true →
    (∀ j, j < b.val → (s.mem.read 0xFFFF &&& s.mem.read 0xFF0F).getLsbD j = false) →
    executeStep s = .next (after
      (memWrite (memWrite (s.setMem 0xFF0F (s.mem.read 0xFF0F &&& ~~~(1#8 <<< b.val))) (s.cpu.sp - 1) (hi8 s.cpu.pc))
        (s.cpu.sp - 2) (lo8 s.cpu.pc))
      { s.cpu with ime := false, halted := false, sp := s.cpu.sp - 2, pc := BitVec.ofNat 16 (0x0040 + 8 * b.val) } 20)

/-- Halted with nothing pending, executeStep changes nothing but the cycle count, which is HALT_IDLE_CYCLES, a multiple of 4
from 4 to 24. Halted with an interrupt pending, with IME set executeStep is the dispatch of the lowest pending source, which
clears the halted flag, and with IME clear it is the instruction after the HALT executed with the halted flag clear, its
cost included; if that instruction is an undefined opcode, the fault carries the halted flag as it was before the step: this
last point is the model's reading of R330 against the order of R340 (log entry 6, DEDUCED). (spec/60_exceptions.md R343,
R330, R340, R341, log entry 6 for the halted flag of the fault) -/
def Obligations.HaltedSteps : Prop :=
  ∀ s : State, s.cpu.halted = true →
    (pending s = 0 → executeStep s = .next (after s s.cpu s.cfg.haltIdleCycles) ∧
      s.cfg.haltIdleCycles ∈ [4, 8, 12, 16, 20, 24] ∧ Config.default.haltIdleCycles = 4) ∧
    (pending s ≠ 0 → s.cpu.ime = true → ∃ b : Fin 5, (pending s).getLsbD b = true ∧
      (∀ j, j < b.val → (pending s).getLsbD j = false) ∧
      executeStep s = .next (after
        (memWrite (memWrite (s.setMem 0xFF0F (s.mem.read 0xFF0F &&& ~~~(1#8 <<< b.val))) (s.cpu.sp - 1) (hi8 s.cpu.pc))
          (s.cpu.sp - 2) (lo8 s.cpu.pc))
        { s.cpu with ime := false, halted := false, sp := s.cpu.sp - 2, pc := BitVec.ofNat 16 (0x0040 + 8 * b.val) } 20)) ∧
    (pending s ≠ 0 → s.cpu.ime = false →
      let r := exec (fetched s) { s with cpu := { s.cpu with
        halted := false, pc := s.cpu.pc + BitVec.ofNat 16 (fetchedLength s) } }
      (∀ t, r = .next t → executeStep s = .next t) ∧
      ∀ op addr u, r = .fault (.unimplementedOpcode op addr u) →
        executeStep s = .fault (.unimplementedOpcode op addr { u with cpu := { u.cpu with halted := true } }))

/-- No step is refused. A step faults exactly when it fetches an instruction (no interrupt taken, not left halted) whose
first byte is one of the eleven undefined values, or 0x10 with STOP_MODE = fault; the fault carries that byte and the PC it
was fetched from, and in the state in which the run ends PC is one past it and nothing else has changed, the halted flag
included. (spec/60_exceptions.md R330, R331, spec/46_system.md R291, R295, log entry 6 for the halted flag) -/
def Obligations.OnlyUnimplementedOpcodesStop : Prop :=
  ∀ s : State, (∀ r, step s ≠ .refused r) ∧
    ∀ f, step s = .fault f ↔
      (pending s = 0 ∨ s.cpu.ime = false) ∧ (s.cpu.halted = false ∨ pending s ≠ 0) ∧
      (memRead s s.cpu.pc ∈ [0xD3, 0xDB, 0xDD, 0xE3, 0xE4, 0xEB, 0xEC, 0xED, 0xF4, 0xFC, 0xFD] ∨
        memRead s s.cpu.pc = 0x10 ∧ s.cfg.stopMode = .fault) ∧
      f = .unimplementedOpcode (memRead s s.cpu.pc) s.cpu.pc
        { s with cpu := { s.cpu with pc := s.cpu.pc + 1 } }

/-- A read gives, by the region of the address, the image byte of the fixed or the switchable ROM window (0xFF beyond the
image), the stored byte, the external RAM window, the echoed byte, 0xFF, the joypad byte or the sound unit's byte; a write
goes, by region, to the bank controller, the stored byte, the external RAM, the echoed byte, nowhere, the joypad select
bits, the DIV reset, the sound unit, STAT with its low three bits kept, or the DMA register and its copy. (R62, R63) -/
def Obligations.BusTables : Prop :=
  ∀ (s : State) (addr : Word) (v : Byte), let a := addr.toNat
    (a < 0x4000 → memRead s addr = s.cart.romByte a) ∧
    (0x4000 ≤ a ∧ a < 0x8000 → memRead s addr = s.cart.romByte (s.cart.ctl.romBank * 0x4000 + (a - 0x4000))) ∧
    (a < 0x8000 → memWrite s addr v = { s with cart := { s.cart with ctl := s.cart.ctl.write a v } }) ∧
    (0x8000 ≤ a ∧ a < 0xA000 ∨ 0xC000 ≤ a ∧ a < 0xE000 ∨ 0xFE00 ≤ a ∧ a < 0xFEA0 →
      memRead s addr = s.mem.read a ∧ memWrite s addr v = s.setMem a v) ∧
    (0xA000 ≤ a ∧ a < 0xC000 →
      memRead s addr = s.cart.readRam a ∧ memWrite s addr v = { s with cart := s.cart.writeRam a v }) ∧
    (0xE000 ≤ a ∧ a < 0xFE00 →
      memRead s addr = s.mem.read (a - 0x2000) ∧ memWrite s addr v = s.setMem (a - 0x2000) v) ∧
    (0xFEA0 ≤ a ∧ a < 0xFF00 → memRead s addr = 0xFF ∧ memWrite s addr v = s) ∧
    (a = 0xFF00 → memRead s addr = s.joypad.read ∧
      memWrite s addr v = { s with joypad := { s.joypad with sel := BitVec.ofNat 2 (v.toNat / 16) } }) ∧
    (0xFF10 ≤ a ∧ a ≤ 0xFF3F →
      memRead s addr = s.snd.read a ∧ memWrite s addr v = { s with snd := s.snd.write a v }) ∧
    (0xFF00 < a ∧ ¬ (0xFF10 ≤ a ∧ a ≤ 0xFF3F) → memRead s addr = s.mem.read a) ∧
    (a = 0xFF04 → memWrite s addr v = { s.setMem 0xFF04 0 with timer := { s.timer with divAcc := 0 } }) ∧
    (a = 0xFF41 → memWrite s addr v = s.setMem 0xFF41 ((v &&& 0xF8) ||| (s.mem.read 0xFF41 &&& 0x07))) ∧
    (a = 0xFF44 → memWrite s addr v = s) ∧
    (a = 0xFF46 → memWrite s addr v = dmaCopy (s.setMem 0xFF46 v) v) ∧
    (0xFF00 < a ∧ a ≠ 0xFF04 ∧ ¬ (0xFF10 ≤ a ∧ a ≤ 0xFF3F) ∧ a ≠ 0xFF41 ∧ a ≠ 0xFF44 ∧ a ≠ 0xFF46 →
      memWrite s addr v = s.setMem a v)

/-- A bus write to an address that stores plainly (video RAM, working RAM, its echo, sprite attribute memory, high RAM, IE,
IF and the plain registers) makes every address of the same cell read the byte, working RAM and its echo being the same
cells, and every other address reads as before. (spec/20_memory.md R69, R75, R76, R77, R78, R79) -/
def Obligations.PlainStores : Prop :=
  ∀ (s : State) (addr b : Word) (v : Byte) (a : Nat), s.mem.wf → plainCell addr = some a →
    (plainCell b = some a → memRead (memWrite s addr v) b = v) ∧
    (plainCell b ≠ some a → memRead (memWrite s addr v) b = memRead s b)

/-- After a write to DIV it reads 0 and its accumulator is 0; after a write to STAT bits 7 to 3 are as written and bits 2 to
0 as before; after a write to 0xFF00 the two select bits read as written; a write to LY or to the unusable region changes
nothing; a write below 0x8000 changes no read outside the switchable ROM window and the external RAM window; a write to the
sound block changes no read outside it. In the first three cases every other address reads as before. (spec/20_memory.md
R63, R68, R78, R80, spec/61_timer.md R382, spec/62_pixel_unit.md R402, R404) -/
def Obligations.SpecialStores : Prop :=
  ∀ (s : State) (addr b : Word) (v : Byte), s.mem.wf →
    let t := memWrite s addr v
    (addr = 0xFF04 → memRead t addr = 0 ∧ t.timer.divAcc = 0 ∧ t.timer.timaAcc = s.timer.timaAcc ∧
      (b ≠ addr → memRead t b = memRead s b)) ∧
    (addr = 0xFF41 → (∀ i, i < 3 → (memRead t addr).getLsbD i = (memRead s addr).getLsbD i) ∧
      (∀ i, 3 ≤ i → (memRead t addr).getLsbD i = v.getLsbD i) ∧ (b ≠ addr → memRead t b = memRead s b)) ∧
    (addr = 0xFF00 → (memRead t addr).getLsbD 4 = v.getLsbD 4 ∧ (memRead t addr).getLsbD 5 = v.getLsbD 5 ∧
      (b ≠ addr → memRead t b = memRead s b)) ∧
    (addr = 0xFF44 ∨ 0xFEA0 ≤ addr.toNat ∧ addr.toNat < 0xFF00 → t = s) ∧
    (addr.toNat < 0x8000 → b.toNat < 0x4000 ∨ 0x8000 ≤ b.toNat ∧ b.toNat < 0xA000 ∨ 0xC000 ≤ b.toNat →
      memRead t b = memRead s b) ∧
    (0xFF10 ≤ addr.toNat ∧ addr.toNat ≤ 0xFF3F → ¬ (0xFF10 ≤ b.toNat ∧ b.toNat ≤ 0xFF3F) → memRead t b = memRead s b)

/-- After a write of v to 0xFF46, byte k of sprite attribute memory, for k from 0 to 159, is what the bus read at v * 256 +
k just before the copy (with 0xFF46 already holding v), 0xFF46 reads v, every other address reads as before, and nothing but
mem has changed. (R84) -/
def Obligations.DmaCopies : Prop :=
  ∀ (s : State) (v : Byte), s.mem.wf →
    let before := s.setMem 0xFF46 v
    let t := memWrite s 0xFF46 v
    (∀ k, k < 160 → memRead t (BitVec.ofNat 16 (0xFE00 + k)) = memRead before (BitVec.ofNat 16 (v.toNat * 256 + k))) ∧
      memRead t 0xFF46 = v ∧
      (∀ b : Word, b ≠ 0xFF46 → ¬ (0xFE00 ≤ b.toNat ∧ b.toNat < 0xFEA0) → memRead t b = memRead s b) ∧
      t = { s with mem := t.mem }

/-- A write below 0x8000 changes nothing but the bank controller, and of it one register by the window of the address: RAM
enable (low nibble 0xA) below 0x2000; the ROM bank in 0x2000 to 0x3FFF, 0 counting as 1 for mbc1 (5 bits) and mbc3 (7 bits),
in two parts for mbc5; the upper bits of mbc1, the selector of mbc3 or the RAM bank of mbc5 in 0x4000 to 0x5FFF; the mode
bit of mbc1 in 0x6000 to 0x7FFF, where the others ignore the write; without a controller nothing. After a write to 0x2000 to
0x3FFF the switchable window of mbc1 shows bank 32 * upper + low part in mode 0 and the low part alone in mode 1; of mbc3
and mbc5 the ROM bank; without a controller bank 1. (spec/20_memory.md R94, R96, R97, R98, R99) -/
def Obligations.BankSwitching : Prop :=
  (∀ (s : State) (addr : Word) (v : Byte), addr.toNat < 0x8000 →
      let a := addr.toNat
      let t := memWrite s addr v
      let on := decide (v.toNat % 16 = 10)
      t = { s with cart := { s.cart with ctl := t.cart.ctl } } ∧
      (s.cart.ctl = .flat → t.cart.ctl = .flat) ∧
      (∀ en lo up m, s.cart.ctl = .mbc1 en lo up m → t.cart.ctl =
        if a < 0x2000 then .mbc1 on lo up m
        else if a < 0x4000 then .mbc1 en (if v.toNat % 32 = 0 then 1 else BitVec.ofNat 5 v.toNat) up m
        else if a < 0x6000 then .mbc1 en lo (BitVec.ofNat 2 v.toNat) m
        else .mbc1 en lo up (decide (v.toNat % 2 = 1))) ∧
      (∀ en bank sel, s.cart.ctl = .mbc3 en bank sel → t.cart.ctl =
        if a < 0x2000 then .mbc3 on bank sel
        else if a < 0x4000 then .mbc3 en (if v.toNat % 128 = 0 then 1 else BitVec.ofNat 7 v.toNat) sel
        else if a < 0x6000 then .mbc3 en bank (BitVec.ofNat 4 v.toNat)
        else .mbc3 en bank sel) ∧
      ∀ en bank ram, s.cart.ctl = .mbc5 en bank ram → t.cart.ctl =
        if a < 0x2000 then .mbc5 on bank ram
        else if a < 0x3000 then .mbc5 en (BitVec.ofNat 9 (bank.toNat / 256 * 256 + v.toNat)) ram
        else if a < 0x4000 then .mbc5 en (BitVec.ofNat 9 (v.toNat % 2 * 256 + bank.toNat % 256)) ram
        else if a < 0x6000 then .mbc5 en bank (BitVec.ofNat 4 v.toNat)
        else .mbc5 en bank ram) ∧
    ∀ (s : State) (addr : Word) (v : Byte) (k : Nat), 0x2000 ≤ addr.toNat → addr.toNat < 0x4000 → k < 0x4000 →
      let shown := memRead (memWrite s addr v) (BitVec.ofNat 16 (0x4000 + k))
      let low (n : Nat) := if n = 0 then 1 else n
      (s.cart.ctl = .flat → shown = s.cart.romByte (0x4000 + k)) ∧
      (∀ en lo up, s.cart.ctl = .mbc1 en lo up false →
        shown = s.cart.romByte ((32 * up.toNat + low (v.toNat % 32)) * 0x4000 + k)) ∧
      (∀ en lo up, s.cart.ctl = .mbc1 en lo up true → shown = s.cart.romByte (low (v.toNat % 32) * 0x4000 + k)) ∧
      (∀ en bank sel, s.cart.ctl = .mbc3 en bank sel → shown = s.cart.romByte (low (v.toNat % 128) * 0x4000 + k)) ∧
      ∀ en bank ram, s.cart.ctl = .mbc5 en bank ram →
        shown = s.cart.romByte (
          (if addr.toNat < 0x3000 then bank.toNat / 256 * 256 + v.toNat else v.toNat % 2 * 256 + bank.toNat % 256) * 0x4000
            + k)

/-- With RAM enabled, a bank selected and the offset inside the RAM, a byte written at 0xA000 to 0xBFFF reads back and no
other offset of that bank changes; with the offset outside the RAM, or with RAM disabled or no bank selected (the clock
registers of mbc3 apart), a read gives 0xFF and a write changes nothing; a selected clock register reads 0 and ignores
writes. A write below 0x2000 whose low nibble is not 0xA closes the window; with 0xA it opens it on the bank the registers
select, for mbc1 the upper bits in mode 1 and bank 0 in mode 0. While RAM is enabled a write to the mode bit of mbc1 (0x6000
to 0x7FFF), the selector of mbc3 or the RAM bank of mbc5 (0x4000 to 0x5FFF) selects the bank at once. (spec/20_memory.md
R92, R95, R97, R98, R99) -/
def Obligations.ExternalRam : Prop :=
  ∀ (s : State) (addr b : Word) (v : Byte), 0xA000 ≤ addr.toNat → addr.toNat < 0xC000 →
    Cells.Wf initZero s.cart.xramSize s.cart.xram →
    let off (n : Nat) := n * 0x2000 + (addr.toNat - 0xA000)
    (∀ n, ramBank s.cart.ctl = some n → off n < s.cart.xramSize →
      memRead (memWrite s addr v) addr = v ∧ (b ≠ addr → memRead (memWrite s addr v) b = memRead s b)) ∧
    (∀ n, ramBank s.cart.ctl = some n → s.cart.xramSize ≤ off n → memRead s addr = 0xFF ∧ memWrite s addr v = s) ∧
    (ramBank s.cart.ctl = none →
      memWrite s addr v = s ∧
      ((∀ bank sel, s.cart.ctl = .mbc3 true bank sel → ¬ (0x08 ≤ sel.toNat ∧ sel.toNat ≤ 0x0C)) → memRead s addr = 0xFF) ∧
      (∀ bank sel, s.cart.ctl = .mbc3 true bank sel → 0x08 ≤ sel.toNat → sel.toNat ≤ 0x0C → memRead s addr = 0x00)) ∧
    ∀ (w : Word) (x : Byte), let t := memWrite s w x
      (w.toNat < 0x2000 → x.toNat % 16 ≠ 10 → ramBank t.cart.ctl = none ∧ memRead t addr = 0xFF ∧ memWrite t addr v = t) ∧
      (w.toNat < 0x2000 → x.toNat % 16 = 10 →
        (∀ en lo up, s.cart.ctl = .mbc1 en lo up true → ramBank t.cart.ctl = some up.toNat) ∧
        (∀ en lo up, s.cart.ctl = .mbc1 en lo up false → ramBank t.cart.ctl = some 0) ∧
        (∀ en bank sel, s.cart.ctl = .mbc3 en bank sel →
          ramBank t.cart.ctl = if sel.toNat ≤ 7 then some sel.toNat else none) ∧
        (∀ en bank ram, s.cart.ctl = .mbc5 en bank ram → ramBank t.cart.ctl = some ram.toNat)) ∧
      (0x6000 ≤ w.toNat → w.toNat < 0x8000 → ∀ lo up m, s.cart.ctl = .mbc1 true lo up m →
        ramBank t.cart.ctl = some (if x.toNat % 2 = 1 then up.toNat else 0)) ∧
      (0x4000 ≤ w.toNat → w.toNat < 0x6000 →
        (∀ bank sel, s.cart.ctl = .mbc3 true bank sel →
          ramBank t.cart.ctl = if x.toNat % 16 ≤ 7 then some (x.toNat % 16) else none) ∧
        ∀ bank ram, s.cart.ctl = .mbc5 true bank ram → ramBank t.cart.ctl = some (x.toNat % 16))

/-- Reading 0xFF00 gives ones in bits 7 and 6, the select bits in bits 5 and 4, and in each low bit a 0 exactly when the
button of a selected group is pressed (Right, Left, Up, Down; A, B, Select, Start). A press sets the button and requests
interrupt 4 exactly when the button was released and JOYPAD_IRQ_ON_PRESS is set; a release clears it and requests nothing;
neither touches the Processor. (R80, R582) -/
def Obligations.JoypadAndButtons : Prop :=
  (∀ s : State, let v := memRead s 0xFF00
      let k := s.joypad.buttons
      let dir := !s.joypad.sel.getLsbD 0
      let act := !s.joypad.sel.getLsbD 1
      v.getLsbD 7 = true ∧ v.getLsbD 6 = true ∧ v.getLsbD 5 = s.joypad.sel.getLsbD 1 ∧
      v.getLsbD 4 = s.joypad.sel.getLsbD 0 ∧
      v.getLsbD 0 = !(dir && k.right || act && k.a) ∧ v.getLsbD 1 = !(dir && k.left || act && k.b) ∧
      v.getLsbD 2 = !(dir && k.up || act && k.select) ∧ v.getLsbD 3 = !(dir && k.down || act && k.start)) ∧
    (∀ (s : State) (v : Byte), (memWrite s 0xFF00 v).joypad = { s.joypad with sel := v.extractLsb' 4 2 }) ∧
    ∀ (s : State) (x y : Button), s.mem.wf →
      (press x s).joypad.buttons.get y = (if y = x then true else s.joypad.buttons.get y) ∧
      (release x s).joypad.buttons.get y = (if y = x then false else s.joypad.buttons.get y) ∧
      (press x s).cpu = s.cpu ∧ (release x s).cpu = s.cpu ∧ (release x s).mem = s.mem ∧
      (press x s).mem.read 0xFF0F =
        (if s.joypad.buttons.get x = false ∧ s.cfg.joypadIrqOnPress = true then s.mem.read 0xFF0F ||| 0x10
         else s.mem.read 0xFF0F)

/-- With the power on, a write to 0xFF10 to 0xFF25 stores all eight bits and a read gives them with the bits of the mask of
R468 set; with the power off the write is ignored. A write with the power on changes that byte alone but for these: NR11,
NR21, NR41 load the length of their channel with 64 less the low six bits, NR31 with 256 less the byte; NR12, NR22, NR42,
NR30 disable their channel at once if they leave its DAC off, and never enable it; NR14, NR24, NR34, NR44 trigger if bit 7
is set. NR52 reads the power in bit 7, ones in bits 6 to 4 and the enabled flags in bits 3 to 0; 0xFF27 to 0xFF2F reads 0xFF
and ignores writes; the wave table is plain storage in both states, byte k at 0xFF30 + k. Switching off sets every register,
every channel, envelope and duty step, the sweep and the sample index to 0 and the noise register to 0x7FFF, keeping the
wave table, the sequencer and the accumulators; switching on clears only the sequencer. (spec/63_sound_unit.md R467, R468,
R469, R471, R472, R473, R474, R475, R476, R477, R478, R479, R492, R530) -/
def Obligations.SoundRegisters : Prop :=
  (∀ (u : SoundUnit) (a : Nat) (v : Byte), 0xFF10 ≤ a → a ≤ 0xFF25 →
      u.read a = u.reg a ||| soundMasks.getD (a - 0xFF10) 0 ∧
      (u.power = true → (u.write a v).reg a = v) ∧ (u.power = false → u.write a v = u)) ∧
    (∀ (u : SoundUnit) (a b : Nat) (v : Byte), 0xFF10 ≤ a → a ≤ 0xFF25 → 0xFF10 ≤ b → b ≤ 0xFF25 →
      (u.setReg a v).reg b = (if b = a then v else u.reg b) ∧ { u.setReg a v with nr := u.nr } = u) ∧
    (∀ (u : SoundUnit) (v : Byte), u.power = true →
      (∀ a ∈ [0xFF10, 0xFF13, 0xFF15, 0xFF18, 0xFF1C, 0xFF1D, 0xFF1F, 0xFF22, 0xFF24, 0xFF25], u.write a v = u.setReg a v) ∧
      (∀ a ∈ [0xFF14, 0xFF19, 0xFF1E, 0xFF23], v.getLsbD 7 = false → u.write a v = u.setReg a v) ∧
      u.write 0xFF11 v = { u.setReg 0xFF11 v with ch1 := { u.ch1 with length := 64 - v.toNat % 64 } } ∧
      u.write 0xFF16 v = { u.setReg 0xFF16 v with ch2 := { u.ch2 with length := 64 - v.toNat % 64 } } ∧
      u.write 0xFF1B v = { u.setReg 0xFF1B v with ch3 := { u.ch3 with length := 256 - v.toNat } } ∧
      u.write 0xFF20 v = { u.setReg 0xFF20 v with ch4 := { u.ch4 with length := 64 - v.toNat % 64 } } ∧
      u.write 0xFF12 v = { u.setReg 0xFF12 v with ch1 := { u.ch1 with enabled := u.ch1.enabled && decide (8 ≤ v.toNat) } } ∧
      u.write 0xFF17 v = { u.setReg 0xFF17 v with ch2 := { u.ch2 with enabled := u.ch2.enabled && decide (8 ≤ v.toNat) } } ∧
      u.write 0xFF1A v = { u.setReg 0xFF1A v with ch3 := { u.ch3 with enabled := u.ch3.enabled && decide (128 ≤ v.toNat) } } ∧
      u.write 0xFF21 v = { u.setReg 0xFF21 v with ch4 := { u.ch4 with enabled := u.ch4.enabled && decide (8 ≤ v.toNat) } }) ∧
    (∀ u : SoundUnit, u.read 0xFF26 = BitVec.ofNat 8 (u.power.toNat * 128 + 0x70 + u.ch4.enabled.toNat * 8 +
      u.ch3.enabled.toNat * 4 + u.ch2.enabled.toNat * 2 + u.ch1.enabled.toNat)) ∧
    (∀ (u : SoundUnit) (a : Nat) (v : Byte), 0xFF27 ≤ a → a ≤ 0xFF2F → u.read a = 0xFF ∧ u.write a v = u) ∧
    (∀ (u : SoundUnit) (a b : Nat) (v : Byte), 0xFF30 ≤ a → a ≤ 0xFF3F → 0xFF30 ≤ b → b ≤ 0xFF3F →
      (u.write a v).read b = if b = a then v else u.read b) ∧
    (∀ (u : SoundUnit) (k : Fin 16), u.read (0xFF30 + k.val) = u.wave[k.val]) ∧
    ∀ (u : SoundUnit) (v : Byte),
      (u.power = true → v.getLsbD 7 = false → u.write 0xFF26 v =
        { power := false, nr := Vector.replicate 22 0, wave := u.wave, fsAcc := u.fsAcc, fsStep := u.fsStep,
          sampleAcc := u.sampleAcc, ch1 := { enabled := false, length := 0, timer := 0 },
          ch2 := { enabled := false, length := 0, timer := 0 }, ch3 := { enabled := false, length := 0, timer := 0 },
          ch4 := { enabled := false, length := 0, timer := 0 }, env1 := { volume := 0, envTimer := 0 },
          env2 := { volume := 0, envTimer := 0 }, env4 := { volume := 0, envTimer := 0 }, dutyStep1 := 0, dutyStep2 := 0,
          shadow := 0, sweepTimer := 0, sweepEnabled := false, sampleIndex := 0, lfsr := 0x7FFF }) ∧
      (u.power = false → v.getLsbD 7 = true → u.write 0xFF26 v = { u with power := true, fsStep := 0, fsAcc := 0 }) ∧
      (u.power = v.getLsbD 7 → u.write 0xFF26 v = u)

/-- With the power on, writing a control register with bit 7 set reloads the length counter when it is 0, the timer with the
period of the frequency now in the registers, and for channels 1, 2 and 4 the volume and the envelope timer; channel 1 also
takes the frequency as its sweep shadow, loads its sweep timer with the period field, 0 counting as 8, and enables the sweep
exactly when the period or the shift is not 0; channel 3 restarts its table, channel 4 its noise register. The channel ends
enabled exactly when its DAC is on and, for channel 1, the sweep shift is 0 or the checked frequency does not pass 2047.
(spec/63_sound_unit.md R490, R492, R484) -/
def Obligations.TriggerReloads : Prop :=
  ∀ (u : SoundUnit) (v : Byte), u.power = true → v.getLsbD 7 = true →
    let reload (n full : Nat) := if n = 0 then full else n
    let freq (low : Nat) := v.toNat % 8 * 256 + (u.reg low).toNat
    let t1 := u.write 0xFF14 v
    let t2 := u.write 0xFF19 v
    let t3 := u.write 0xFF1E v
    let t4 := u.write 0xFF23 v
    let sh := (u.reg 0xFF10).toNat % 8
    let sp := (u.reg 0xFF10).toNat / 16 % 8
    let swept := if (u.reg 0xFF10).getLsbD 3 then freq 0xFF13 - freq 0xFF13 / 2 ^ sh else freq 0xFF13 + freq 0xFF13 / 2 ^ sh
    (t1.ch1 = {
        length := reload u.ch1.length 64
        timer := (2048 - freq 0xFF13) * 4
        enabled := decide (8 ≤ (u.reg 0xFF12).toNat) && (decide (sh = 0) || decide (swept ≤ 2047)) } ∧
      t1.env1 = { volume := (u.reg 0xFF12).toNat / 16, envTimer := (u.reg 0xFF12).toNat % 8 } ∧
      t1.shadow = freq 0xFF13 ∧ t1.sweepTimer = (if sp = 0 then 8 else sp) ∧
      t1.sweepEnabled = decide (sp ≠ 0 ∨ sh ≠ 0)) ∧
    (t2.ch2 = {
        length := reload u.ch2.length 64
        timer := (2048 - freq 0xFF18) * 4
        enabled := decide (8 ≤ (u.reg 0xFF17).toNat) } ∧
      t2.env2 = { volume := (u.reg 0xFF17).toNat / 16, envTimer := (u.reg 0xFF17).toNat % 8 }) ∧
    (t3.ch3 = {
        length := reload u.ch3.length 256
        timer := (2048 - freq 0xFF1D) * 2
        enabled := (u.reg 0xFF1A).getLsbD 7 } ∧ t3.sampleIndex = 0) ∧
    (t4.ch4.length = reload u.ch4.length 64 ∧ t4.ch4.enabled = decide (8 ≤ (u.reg 0xFF21).toNat) ∧
      t4.ch4.timer = (if (u.reg 0xFF22).toNat % 8 = 0 then 8 else 16 * ((u.reg 0xFF22).toNat % 8)) *
        2 ^ ((u.reg 0xFF22).toNat / 16) ∧
      t4.env4 = { volume := (u.reg 0xFF21).toNat / 16, envTimer := (u.reg 0xFF21).toNat % 8 } ∧ t4.lfsr = 0x7FFF)

/-- In 15-bit mode a shift of the noise register takes a register that is not 0 to one that is not 0, and no two registers
to the same one; its bit 14 is the exclusive or of the old bits 1 and 0 and the other bits move down by one. In 7-bit mode
bit 6 receives the same bit. (spec/63_sound_unit.md R504) -/
def Obligations.NoiseRegisterNeverZero : Prop :=
  (∀ r : BitVec 15, r ≠ 0 → lfsrNext false r ≠ 0) ∧
    (∀ r q : BitVec 15, lfsrNext false r = lfsrNext false q → r = q) ∧
    ∀ r : BitVec 15, (∀ i, i < 14 → (lfsrNext false r).getLsbD i = r.getLsbD (i + 1)) ∧
      (lfsrNext false r).getLsbD 14 = (r.getLsbD 0 ^^ r.getLsbD 1) ∧
      (∀ i, i ≠ 6 → (lfsrNext true r).getLsbD i = (lfsrNext false r).getLsbD i) ∧
      (lfsrNext true r).getLsbD 6 = (r.getLsbD 0 ^^ r.getLsbD 1)

/-- With the power off a step only advances the sample clock and emits silence; with it on the sequencer runs, then the four
channel timers, then the samples. The sequencer acts each 8192 cycles on its step: lengths if even, then the sweep if 2 or
6, envelopes if 7. The length clock counts a latched length above 0 down and disables its channel at 0; the envelope clock
moves the volume by one inside 0 to 15 each period; the sweep clock disables channel 1 on a frequency above 2047 without
commit, and otherwise commits it and checks once more. A channel timer reloads by its period and advances its waveform each
time it reaches 0, however the cycles are split. The output of an enabled channel whose DAC is on is the duty pattern's bit
times the volume, the wave table's nibble shifted right by its level, or the inverted low bit of the noise register times
the volume; of any other channel 0. The pair is Mix of the outputs, by default the mixer of R536, and (0, 0) with the power
off. Two steps of c and d cycles emit floor((sampleAcc + (c + d) * SAMPLE_RATE) / CPU_HZ) pairs. (spec/63_sound_unit.md
R461, R480, R481, R482, R483, R484, R492, R500, R501, R502, R503, R504, R530, R535, R536) -/
def Obligations.SoundClocks : Prop :=
  (∀ (u : SoundUnit) (cfg : Config) (c : Nat),
      let clock := u.sampleAcc + c * cfg.sampleRate
      let on := ((((u.advanceFrameSequencer c).clockTimer .c1 c).clockTimer .c2 c).clockTimer .c3 c).clockTimer .c4 c
      (u.power = false →
        u.step cfg c = ({ u with sampleAcc := clock % cfg.cpuHz }, List.replicate (clock / cfg.cpuHz) (0, 0))) ∧
      (u.power = true →
        u.step cfg c = ({ on with sampleAcc := clock % cfg.cpuHz }, List.replicate (clock / cfg.cpuHz) (on.mix cfg)))) ∧
    (∀ (u : SoundUnit) (c : Nat), u.fsAcc + c < 8192 → u.advanceFrameSequencer c = { u with fsAcc := u.fsAcc + c }) ∧
    (∀ (u : SoundUnit) (c : Nat), 8192 ≤ u.fsAcc + c → u.fsAcc + c < 16384 →
      u.advanceFrameSequencer c =
        let v := { u with fsAcc := u.fsAcc + c - 8192 }
        let v := if u.fsStep % 2 = 0 then v.clockLength else v
        let v := if u.fsStep = 2 ∨ u.fsStep = 6 then v.clockSweep else v
        let v := if u.fsStep = 7 then v.clockEnvelope else v
        { v with fsStep := (u.fsStep + 1) % 8 }) ∧
    (∀ u : SoundUnit, u.clockLength = { u with
        ch1 := lengthClocked (u.reg 0xFF14) u.ch1, ch2 := lengthClocked (u.reg 0xFF19) u.ch2,
        ch3 := lengthClocked (u.reg 0xFF1E) u.ch3, ch4 := lengthClocked (u.reg 0xFF23) u.ch4 }) ∧
    (∀ u : SoundUnit, u.clockEnvelope = { u with
        env1 := envelopeClocked (u.reg 0xFF12) u.env1, env2 := envelopeClocked (u.reg 0xFF17) u.env2,
        env4 := envelopeClocked (u.reg 0xFF21) u.env4 }) ∧
    (∀ u : SoundUnit,
      let sp := (u.reg 0xFF10).toNat / 16 % 8
      let sh := (u.reg 0xFF10).toNat % 8
      let swept (x : Nat) := if (u.reg 0xFF10).getLsbD 3 then x - x / 2 ^ sh else x + x / 2 ^ sh
      let f := swept u.shadow
      let w := { u with sweepTimer := if sp = 0 then 8 else sp }
      (1 < u.sweepTimer → u.clockSweep = { u with sweepTimer := u.sweepTimer - 1 }) ∧
      (u.sweepTimer ≤ 1 → u.sweepEnabled = false ∨ sp = 0 ∨ f ≤ 2047 ∧ sh = 0 → u.clockSweep = w) ∧
      (u.sweepTimer ≤ 1 → u.sweepEnabled = true → sp ≠ 0 → 2047 < f →
        u.clockSweep = { w with ch1 := { u.ch1 with enabled := false } }) ∧
      (u.sweepTimer ≤ 1 → u.sweepEnabled = true → sp ≠ 0 → f ≤ 2047 → sh ≠ 0 →
        u.clockSweep = { (w.setReg 0xFF13 (BitVec.ofNat 8 (f % 256))).setReg 0xFF14
            (BitVec.ofNat 8 ((u.reg 0xFF14).toNat / 8 * 8 + f / 256)) with
          shadow := f, ch1 := { u.ch1 with enabled := u.ch1.enabled && decide (swept f ≤ 2047) } })) ∧
    (∀ u : SoundUnit,
      let freq (low : Nat) := (u.reg (low + 1)).toNat % 8 * 256 + (u.reg low).toNat
      u.period .c1 = (2048 - freq 0xFF13) * 4 ∧ u.period .c2 = (2048 - freq 0xFF18) * 4 ∧
      u.period .c3 = (2048 - freq 0xFF1D) * 2 ∧
      u.period .c4 = [8, 16, 32, 48, 64, 80, 96, 112].getD ((u.reg 0xFF22).toNat % 8) 0 * 2 ^ ((u.reg 0xFF22).toNat / 16) ∧
      u.advance .c1 = { u with dutyStep1 := (u.dutyStep1 + 1) % 8 } ∧
      u.advance .c2 = { u with dutyStep2 := (u.dutyStep2 + 1) % 8 } ∧
      u.advance .c3 = { u with sampleIndex := (u.sampleIndex + 1) % 32 } ∧
      u.advance .c4 = { u with lfsr := lfsrNext ((u.reg 0xFF22).getLsbD 3) u.lfsr }) ∧
    (∀ (u : SoundUnit) (x : ChannelId) (a b : Nat), let ch := u.channel x
      (a < ch.timer → u.clockTimer x a = u.setChannel x { ch with timer := ch.timer - a }) ∧
      (ch.timer ≤ a → a < ch.timer + u.period x →
        u.clockTimer x a = (u.setChannel x { ch with timer := ch.timer + u.period x - a }).advance x) ∧
      (0 < ch.timer → (u.clockTimer x a).clockTimer x b = u.clockTimer x (a + b))) ∧
    (∀ u : SoundUnit,
      let duty (r step : Nat) := ([[0, 0, 0, 0, 0, 0, 0, 1], [1, 0, 0, 0, 0, 0, 0, 1], [1, 0, 0, 0, 0, 1, 1, 1],
        [0, 1, 1, 1, 1, 1, 1, 0]].getD ((u.reg r).toNat / 64) []).getD step 0
      let pair := ((u.wave[u.sampleIndex / 2]?).getD 0).toNat
      let nibble := if u.sampleIndex % 2 = 0 then pair / 16 else pair % 16
      u.outOf .c1 = (if u.ch1.enabled = true ∧ 8 ≤ (u.reg 0xFF12).toNat then duty 0xFF11 u.dutyStep1 * u.env1.volume else 0) ∧
      u.outOf .c2 = (if u.ch2.enabled = true ∧ 8 ≤ (u.reg 0xFF17).toNat then duty 0xFF16 u.dutyStep2 * u.env2.volume else 0) ∧
      u.outOf .c3 = (if u.ch3.enabled = true ∧ 128 ≤ (u.reg 0xFF1A).toNat
        then nibble / 2 ^ [4, 0, 1, 2].getD ((u.reg 0xFF1C).toNat / 32 % 4) 0 else 0) ∧
      u.outOf .c4 = (if u.ch4.enabled = true ∧ 8 ≤ (u.reg 0xFF21).toNat
        then (1 - u.lfsr.toNat % 2) * u.env4.volume else 0)) ∧
    (∀ (u : SoundUnit) (cfg : Config),
      let ear (first vol : Nat) : Rat := cfg.masterGain * (
        ((if (u.reg 0xFF25).getLsbD first then (u.outOf .c1 : Rat) / 15 else 0) +
          (if (u.reg 0xFF25).getLsbD (first + 1) then (u.outOf .c2 : Rat) / 15 else 0) +
          (if (u.reg 0xFF25).getLsbD (first + 2) then (u.outOf .c3 : Rat) / 15 else 0) +
          (if (u.reg 0xFF25).getLsbD (first + 3) then (u.outOf .c4 : Rat) / 15 else 0)) / 4) * (((vol + 1 : Nat) : Rat) / 8)
      (u.power = false → u.mix cfg = (0, 0)) ∧
      (u.power = true → cfg.mixPairs = [] →
        u.mix cfg = (ear 4 ((u.reg 0xFF24).toNat / 16 % 8), ear 0 ((u.reg 0xFF24).toNat % 8)))) ∧
    ∀ (u : SoundUnit) (cfg : Config) (c d : Nat), 0 < cfg.cpuHz →
      (u.step cfg c).2.length + ((u.step cfg c).1.step cfg d).2.length =
        (u.sampleAcc + (c + d) * cfg.sampleRate) / cfg.cpuHz

/-- DIV goes up by the number of times 256 cycles are completed. A disabled timer leaves TIMA, IF and its accumulator. An
enabled one increments TIMA as often as the accumulator with the cycles added holds the selected period, however often that
is, and keeps the remainder; each increment from 0xFF gives TMA instead and requests IF bit 2 in the same call. So less than
a period changes neither; one period is one increment; 24 cycles at period 16 on a residue of 8 or more are two; and a
residue of 500 when the period becomes 16 is drained by 31 increments and those due. Nothing else changes. (spec/61_timer.md
R384, R385, R386, R387, R388) -/
def Obligations.TimerOverflow : Prop :=
  ∀ (s : State) (c : Nat), s.mem.wf →
    let tac := (s.mem.read 0xFF07).toNat
    let period := [1024, 16, 64, 256].getD (tac % 4) 0
    let t := advanceTimers c s
    let tima := s.mem.read 0xFF05
    let requested (b : Bool) := if b then s.mem.read 0xFF0F ||| 0x04 else s.mem.read 0xFF0F
    (t.mem.read 0xFF04 = s.mem.read 0xFF04 + BitVec.ofNat 8 ((s.timer.divAcc + c) / 256) ∧
      t.timer.divAcc = (s.timer.divAcc + c) % 256) ∧
    (tac / 4 % 2 = 0 → t.mem.read 0xFF05 = tima ∧ t.mem.read 0xFF0F = s.mem.read 0xFF0F ∧
      t.timer.timaAcc = s.timer.timaAcc) ∧
    (tac / 4 % 2 = 1 →
      let after := timaTicks (s.mem.read 0xFF06) ((s.timer.timaAcc + c) / period) (tima, false)
      t.mem.read 0xFF05 = after.1 ∧ t.mem.read 0xFF0F = requested after.2 ∧
      t.timer.timaAcc = (s.timer.timaAcc + c) % period) ∧
    (tac / 4 % 2 = 1 → s.timer.timaAcc + c < period →
      t.mem.read 0xFF05 = tima ∧ t.mem.read 0xFF0F = s.mem.read 0xFF0F ∧ t.timer.timaAcc = s.timer.timaAcc + c) ∧
    (tac / 4 % 2 = 1 → period ≤ s.timer.timaAcc + c → s.timer.timaAcc + c < 2 * period →
      t.mem.read 0xFF05 = (if tima = 0xFF then s.mem.read 0xFF06 else tima + 1) ∧
      t.mem.read 0xFF0F = requested (decide (tima = 0xFF)) ∧ t.timer.timaAcc = s.timer.timaAcc + c - period) ∧
    (tac % 8 = 5 → 8 ≤ s.timer.timaAcc → s.timer.timaAcc < 16 → c = 24 → tima.toNat < 254 →
      t.mem.read 0xFF05 = tima + 2 ∧ t.mem.read 0xFF0F = s.mem.read 0xFF0F ∧ t.timer.timaAcc = s.timer.timaAcc - 8) ∧
    (tac % 8 = 5 → s.timer.timaAcc = 500 → tima.toNat + (500 + c) / 16 < 256 →
      t.mem.read 0xFF05 = tima + BitVec.ofNat 8 (31 + (4 + c) / 16) ∧ t.mem.read 0xFF0F = s.mem.read 0xFF0F ∧
      t.timer.timaAcc = (4 + c) % 16) ∧
    (∀ a, a ≠ 0xFF04 → a ≠ 0xFF05 → a ≠ 0xFF0F → t.mem.read a = s.mem.read a) ∧
    t = { s with mem := t.mem, timer := t.timer }

/-- Advancing the timer engine by a and then by b cycles gives the state that advancing it by a + b gives: DIV, TIMA, IF,
both accumulators and everything else. (spec/61_timer.md R386, R388) -/
def Obligations.TimerInsensitiveToSplit : Prop :=
  ∀ (s : State) (a b : Nat), s.mem.wf → advanceTimers b (advanceTimers a s) = advanceTimers (a + b) s

/-- With the LCD off a step gives mode 0, clock 0, LY 0 and clear STAT mode bits, and requests and presents nothing. With it
on, a step inside the budget only moves the clock; past it the unit goes from mode 2 to 3, 3 to 0, 0 to 2 of the next line
or to mode 1 at line 144, and from line 153 to mode 2 of line 0, excess cycles kept. Entering modes 0, 1, 2 requests
interrupt 1 if STAT bit 3, 4, 5 is set; each new LY is compared with LYC, which sets or clears STAT bit 2 and on a match
requests interrupt 1 if bit 6 is set; entering V-blank requests interrupt 0, renders and presents. Entering mode 2 of a line
takes its scroll snapshot. STAT shows the new mode if it showed the old one. No byte of mem but LY, STAT and IF changes, and
nothing outside the unit and the presented frame. (spec/62_pixel_unit.md R402, R404, R410, R411, R412, R413, R414, R415,
R416, R418) -/
def Obligations.PixelSteps : Prop :=
  ∀ (s : State) (c : Nat), s.mem.wf →
    let t := pixelStep c s
    let on := (s.mem.read 0xFF40).getLsbD 7
    let ly := s.mem.read 0xFF44
    let stat := s.mem.read 0xFF41
    let next := if s.ppu.mode = .vblank ∧ ly = 153 then 0 else ly + 1
    let entered := s.ppu.mode = .hblank ∧ ly = 143
    let hit := decide (next = s.mem.read 0xFF45)
    let requested (b : Bool) := if b then s.mem.read 0xFF0F ||| 0x02 else s.mem.read 0xFF0F
    let past := s.ppu.mode.budget ≤ s.ppu.clock + c
    (on = false → t.ppu = { s.ppu with mode := .hblank, clock := 0 } ∧ t.mem.read 0xFF44 = 0 ∧
      t.mem.read 0xFF41 = stat &&& 0xFC ∧ t.mem.read 0xFF0F = s.mem.read 0xFF0F ∧ t.out.presented = none) ∧
    (on = true → ¬ past → t = { s with ppu := { s.ppu with clock := s.ppu.clock + c }, out := { s.out with presented := none } }) ∧
    (on = true → past → t.ppu.clock = s.ppu.clock + c - s.ppu.mode.budget ∧
      (stat.extractLsb' 0 2 = s.ppu.mode.number → (t.mem.read 0xFF41).extractLsb' 0 2 = t.ppu.mode.number) ∧
      (∀ i, 3 ≤ i → (t.mem.read 0xFF41).getLsbD i = stat.getLsbD i) ∧
      ((t.mem.read 0xFF41).getLsbD 2 =
        if s.ppu.mode = .hblank ∨ s.ppu.mode = .vblank then hit else stat.getLsbD 2) ∧
      (s.ppu.mode = .oamSearch → t.ppu.mode = .draw ∧ t.mem.read 0xFF44 = ly ∧ t.mem.read 0xFF0F = s.mem.read 0xFF0F) ∧
      (s.ppu.mode = .draw → t.ppu.mode = .hblank ∧ t.mem.read 0xFF44 = ly ∧
        t.mem.read 0xFF0F = requested (stat.getLsbD 3)) ∧
      (s.ppu.mode = .hblank → ly ≠ 143 → t.ppu.mode = .oamSearch ∧ t.mem.read 0xFF44 = ly + 1 ∧
        t.mem.read 0xFF0F = requested (hit && stat.getLsbD 6 || stat.getLsbD 5)) ∧
      (s.ppu.mode = .hblank → ly = 143 → t.ppu.mode = .vblank ∧ t.mem.read 0xFF44 = 144 ∧
        t.mem.read 0xFF0F = requested (hit && stat.getLsbD 6 || stat.getLsbD 4) ||| 0x01) ∧
      (s.ppu.mode = .vblank → ly ≠ 153 → t.ppu.mode = .vblank ∧ t.mem.read 0xFF44 = ly + 1 ∧
        t.mem.read 0xFF0F = requested (hit && stat.getLsbD 6)) ∧
      (s.ppu.mode = .vblank → ly = 153 → t.ppu.mode = .oamSearch ∧ t.mem.read 0xFF44 = 0 ∧
        t.mem.read 0xFF0F = requested (hit && stat.getLsbD 6 || stat.getLsbD 5)) ∧
      (t.ppu.scrollCache = if t.ppu.mode = .oamSearch
        then s.ppu.scrollCache.setIfInBounds next.toNat (s.mem.read 0xFF43, s.mem.read 0xFF42) else s.ppu.scrollCache) ∧
      t.ppu.frame = (if entered then renderFrame t.mem s.ppu.scrollCache else s.ppu.frame) ∧
      t.out.presented = if entered then some t.ppu.frame else none) ∧
    (∀ a, a ≠ 0xFF0F → a ≠ 0xFF41 → a ≠ 0xFF44 → t.mem.read a = s.mem.read a) ∧
    t = { s with mem := t.mem, ppu := t.ppu, out := { s.out with presented := t.out.presented } }

/-- The frame that is rendered has, at every x below 160 and y below 144, the shade of pixel(x, y): what the scan of the
forty sprite entries in table order gives, if sprites are enabled and it gives one, and otherwise the background palette's
entry for the background colour. That colour is 0 with the background disabled; else it is read from the tile of the window,
where it is enabled and covers the pixel, or of the background at the scroll position of the line's snapshot. A sprite entry
has a colour inside its bounding box only, with its flips and its height. In the scan entries outside their box or
transparent are passed over; none left gives none; the first opaque one shows, or, behind a non-zero background with the
priority attribute, ends the scan with none. (spec/62_pixel_unit.md R406, R420, R421, R422, R423, R424, R425, R426, R427) -/
def Obligations.FrameIsItsPixels : Prop :=
  (∀ (m : Memory) (cache : Vector (Byte × Byte) 154) (x y : Nat), x < 160 → y < 144 →
      (renderFrame m cache).shade x y = pixel m cache x y) ∧
    (∀ (m : Memory) (cache : Vector (Byte × Byte) 154) (x : Nat) (y : Fin 154),
      let lcdc := m.read 0xFF40
      let bg := bgIndex m cache x y.val
      let wx := (m.read 0xFF4B).toNat
      let wy := (m.read 0xFF4A).toNat
      let data (n : Nat) := if lcdc.getLsbD 4 then 0x8000 + n * 16 else if n < 128 then 0x9000 + n * 16 else 0x8000 + n * 16
      let colour (high : Bool) (px py : Nat) :=
        tileColour m (data (m.read ((if high then 0x9C00 else 0x9800) + py / 8 * 32 + px / 8)).toNat) (py % 8) (px % 8)
      (pixel m cache x y.val =
        ((if lcdc.getLsbD 1 then spriteScan m bg x y.val (List.range 40) else none).getD
          (BitVec.ofNat 2 ((m.read 0xFF47).toNat / 4 ^ bg.toNat)))) ∧
      (lcdc.getLsbD 0 = false → bg = 0) ∧
      (lcdc.getLsbD 0 = true → lcdc.getLsbD 5 = true ∧ wy ≤ y.val ∧ wx ≤ x + 7 →
        bg = colour (lcdc.getLsbD 6) (x + 7 - wx) (y.val - wy)) ∧
      (lcdc.getLsbD 0 = true → ¬ (lcdc.getLsbD 5 = true ∧ wy ≤ y.val ∧ wx ≤ x + 7) →
        bg = colour (lcdc.getLsbD 3) ((x + cache[y].1.toNat) % 256) ((y.val + cache[y].2.toNat) % 256))) ∧
    (∀ (m : Memory) (x y i : Nat),
      let sy : Int := (m.read (0xFE00 + 4 * i)).toNat - 16
      let sx : Int := (m.read (0xFE00 + 4 * i + 1)).toNat - 8
      let tile := (m.read (0xFE00 + 4 * i + 2)).toNat
      let attr := m.read (0xFE00 + 4 * i + 3)
      let h : Nat := if (m.read 0xFF40).getLsbD 2 then 16 else 8
      let r := (y - sy).toNat
      let k := (x - sx).toNat
      spriteIndex m x y i =
        if sy ≤ y ∧ y < sy + h ∧ sx ≤ x ∧ x < sx + 8 then
          some (tileColour m (0x8000 + (if h = 16 then tile / 2 * 2 else tile) * 16)
            (if attr.getLsbD 6 then h - 1 - r else r) (if attr.getLsbD 5 then 7 - k else k))
        else none) ∧
    (∀ (m : Memory) (bg : BitVec 2) (x y : Nat) (l : List Nat),
      (∀ j ∈ l, spriteIndex m x y j = none ∨ spriteIndex m x y j = some 0) → spriteScan m bg x y l = none) ∧
    ∀ (m : Memory) (bg : BitVec 2) (x y i : Nat) (front back : List Nat) (idx : BitVec 2),
      (∀ j ∈ front, spriteIndex m x y j = none ∨ spriteIndex m x y j = some 0) →
      spriteIndex m x y i = some idx → idx ≠ 0 →
      spriteScan m bg x y (front ++ i :: back) =
        let attr := m.read (0xFE00 + 4 * i + 3)
        if attr.getLsbD 7 = true ∧ bg ≠ 0 then none
        else some (BitVec.ofNat 2 ((m.read (if attr.getLsbD 4 then 0xFF49 else 0xFF48)).toNat / 4 ^ idx.toNat))

/-- With the memory of R430 the pixels 0 to 7 of line 0 are 1, 2, 3, 3, 3, 3, 2, 1, and with a second opaque sprite after
the first they are the same: the scan ended at the first sprite's hit. (spec/62_pixel_unit.md R430, spec/95_test_vectors.md
RD-01, RD-02) -/
def Obligations.PixelExample : Prop :=
  let base := [(0xFF40, 0x93#8), (0x9800, 0x01), (0x8010, 0x3C), (0x8011, 0x7E), (0xFF47, 0xE4), (0xFE00, 16), (0xFE01, 8),
    (0xFE02, 2), (0xFE03, 0x80), (0x8020, 0xFF), (0x8021, 0x00), (0xFF48, 0xE4)]
  let second := [(0xFE04, 16#8), (0xFE05, 8), (0xFE06, 3), (0xFE07, 0x00), (0x8030, 0xFF), (0x8031, 0xFF)]
  let memory (l : List (Nat × Byte)) : Memory := l.foldl (fun m p => m.write p.1 p.2) []
  let line (m : Memory) := (List.range 8).map (fun x => (pixel m (Vector.replicate 154 (0, 0)) x 0).toNat)
  line (memory base) = [1, 2, 3, 3, 3, 3, 2, 1] ∧ line (memory (base ++ second)) = [1, 2, 3, 3, 3, 3, 2, 1]

/-- A step is executeStep followed by the timers, the PixelUnit and the SoundUnit, each advanced by the cycle count that
executeStep returned; if executeStep faults, the step is that fault and none of the three is advanced. Advancing the three
by the same cycles gives the same state in all six orders. (R570) -/
def Obligations.EnginesCommute : Prop :=
  (∀ s t : State, executeStep s = .next t →
      step s = .next (soundStep t.out.cycles (pixelStep t.out.cycles (advanceTimers t.out.cycles t)))) ∧
    (∀ (s : State) (f : Fault), executeStep s = .fault f → step s = .fault f) ∧
    ∀ (s : State) (c : Nat), s.mem.wf →
      let t := soundStep c (pixelStep c (advanceTimers c s))
      t = soundStep c (advanceTimers c (pixelStep c s)) ∧ t = pixelStep c (soundStep c (advanceTimers c s)) ∧
      t = pixelStep c (advanceTimers c (soundStep c s)) ∧ t = advanceTimers c (soundStep c (pixelStep c s)) ∧
      t = advanceTimers c (pixelStep c (soundStep c s))

/-- For every configuration whose parameters are legal and every cartridge port in range the state after reset meets the
invariant, and so does the model's reset state. (spec/70_reset_and_hazards.md R561, spec/10_state.md R23, R33, R37) -/
def Obligations.ResetMeetsInvariant : Prop :=
  (∀ (c : Config) (cart : Cartridge), c.Valid → cart.Inv → (State.resetWith c cart).Inv) ∧ State.reset.Inv

/-- If the low nibble of F is 0, it is 0 after every step. (spec/10_state.md R23) -/
def Obligations.FlagNibbleStaysZero : Prop :=
  ∀ s t : State, s.cpu.f &&& 0x0F = 0 → step s = .next t → t.cpu.f &&& 0x0F = 0

/-- If the raw byte array is in its canonical form (log entry 3), it is after every step, and every cell that no rule reads
or writes (those under the cartridge windows, the echo, the unusable region, the joypad and the sound block) holds the byte
it held. (spec/10_state.md R30, spec/20_memory.md R61, R77, spec/63_sound_unit.md R462, log entry 3 for the canonical form)
-/
def Obligations.MemoryStaysCanonical : Prop :=
  ∀ s t : State, s.mem.wf → step s = .next t → t.mem.wf ∧ ∀ a, unusedCell a = true → t.mem.read a = s.mem.read a

/-- If the timer accumulators are below their longest periods, the bank registers in which 0 counts as 1 are not 0, and the
image and the external RAM are canonical and inside their sizes, the same holds after every step. (spec/61_timer.md R388,
spec/20_memory.md R92, R97, R98) -/
def Obligations.TimerAndCartridgeStayInRange : Prop :=
  ∀ s t : State, s.timer.Inv → s.cart.Inv → step s = .next t → t.timer.Inv ∧ t.cart.Inv

/-- If the clock is below the budget of the mode, the STAT mode bits show the mode, LY is 144 to 153 in V-blank and 0 to 143
otherwise, the snapshot entries of lines 144 to 153 are (0, 0) and the frame is canonical, then the same holds after every
step, whatever instruction ran and whatever it stored. (spec/62_pixel_unit.md R402, R404, R410, R414, R416, spec/10_state.md
R33) -/
def Obligations.PixelUnitStaysInStep : Prop :=
  ∀ s t : State, s.mem.wf → pixelInv s → step s = .next t → pixelInv t

/-- If every counter of the sound unit is in its range (volumes at most 15, lengths at most 64 or 256, the sweep shadow at
most 2047, ...) and a unit that is off has every register 0 and every channel disabled, the same holds after every step.
(spec/63_sound_unit.md R462, R463, R464, R465, R466, R469) -/
def Obligations.SoundStaysInRange : Prop :=
  ∀ s t : State, 0 < s.cfg.cpuHz → s.snd.Inv s.cfg → step s = .next t → t.snd.Inv t.cfg

/-- An instruction leaves IME set if it is EI or RETI, clear if it is DI, and unchanged otherwise; it sets the halted flag
if it is HALT or STOP and otherwise leaves it. Taking an interrupt clears both. The engines change nothing of the Processor.
(spec/10_state.md R27, R28) -/
def Obligations.ProcessorFlagsRule : Prop :=
  (∀ (i : Instr) (s t : State), exec i s = .next t →
      t.cpu.ime = (match i with | .ei => true | .reti => true | .di => false | _ => s.cpu.ime) ∧
      t.cpu.halted = (match i with | .halt => true | .stop _ => true | _ => s.cpu.halted)) ∧
    (∀ s : State, pending s ≠ 0 → s.cpu.ime = true →
      ∃ t, executeStep s = .next t ∧ t.cpu.ime = false ∧ t.cpu.halted = false) ∧
    ∀ (c : Nat) (s : State), (advanceEngines c s).cpu = s.cpu

/-- Whenever executeStep answers a next state its cycle count is one of 4, 8, 12, 16, 20 and 24, and the step reports that
count. (spec/70_reset_and_hazards.md R571) -/
def Obligations.CycleCounts : Prop :=
  (∀ s t : State, executeStep s = .next t → t.out.cycles ∈ [4, 8, 12, 16, 20, 24]) ∧
    ∀ s t u : State, executeStep s = .next t → step s = .next u → u.out.cycles = t.out.cycles

/-- Every step keeps the cartridge image and its length, the kind of the bank controller, the size of the external RAM,
every parameter and every button; the host's press and release keep the image, the kind and the parameters.
(spec/20_memory.md R90, spec/10_state.md R35, R36) -/
def Obligations.FixedForTheRun : Prop :=
  (∀ s t : State, step s = .next t →
      t.cart.rom = s.cart.rom ∧ t.cart.romSize = s.cart.romSize ∧ t.cart.xramSize = s.cart.xramSize ∧
      t.cart.ctl.kind = s.cart.ctl.kind ∧ t.cfg = s.cfg ∧ t.joypad.buttons = s.joypad.buttons) ∧
    ∀ (s : State) (x : Button), (press x s).cart = s.cart ∧ (press x s).cfg = s.cfg ∧
      (release x s).cart = s.cart ∧ (release x s).cfg = s.cfg

/-- When an instruction answers a next state, everything but the Processor and the cycle count is what the bus writes of its
stores, made in order, leave: for an instruction that stores nothing, all of memory, every device, every accumulator and the
cartridge port are unchanged. (spec/20_memory.md R67, R68, spec/41_load16.md R180) -/
def Obligations.OnlyStoresChangeTheRest : Prop :=
  ∀ (i : Instr) (s t : State), i.wellFormed = true → exec i s = .next t →
    { t with cpu := s.cpu, out := s.out } = (stores s i).foldl (fun u p => memWrite u p.1 p.2) s ∧
    t.out = { s.out with cycles := t.out.cycles }

/-- When an instruction answers a next state and each byte it stores goes to a plain cell, every address of no stored cell
reads as before; an instruction that stores nothing leaves every address reading as before. (spec/20_memory.md R67, R69,
R77) -/
def Obligations.OtherAddressesReadAsBefore : Prop :=
  ∀ (i : Instr) (s t : State) (b : Word), i.wellFormed = true → s.mem.wf → exec i s = .next t →
    (∀ p ∈ stores s i, ∃ a, plainCell p.1 = some a ∧ plainCell b ≠ some a) → memRead t b = memRead s b

/-- If the two bytes below SP are different plain cells, a pushed word is what a pop then reads, and the pop restores SP; so
an interrupt taken there and left at once by RETI returns to the PC and the SP it was taken at with IME set.
(spec/41_load16.md R180, spec/60_exceptions.md R341, R345) -/
def Obligations.PushThenPop : Prop :=
  ∀ (s : State) (w : Word) (a b : Nat), s.mem.wf → plainCell (s.cpu.sp - 1) = some a → plainCell (s.cpu.sp - 2) = some b →
    a ≠ b →
    (popWord (push16 s w) = w ∧ (popSp (push16 s w)).cpu = s.cpu) ∧
    ∀ src : Fin 5, ∃ t, exec .reti (takeInterrupt src s) = .next t ∧
      t.cpu = { s.cpu with ime := true }

/-- For every state that meets the invariant, restoring what extract gave succeeds and gives the state. Whatever is
restored, the machine gets the snapshot with the image, its length, the size of the external RAM and the parameters of the
machine it is restored to. The refusal of a snapshot whose F has a non-zero low nibble is the model's choice (log entry 9).
(spec/70_reset_and_hazards.md R584, spec/60_exceptions.md R354, log entry 9 for the refusal) -/
def Obligations.RestoreOfExtract : Prop :=
  (∀ s : State, s.Inv → restore (extract s) s = .ok s) ∧
    (∀ snap s t : State, restore snap s = .ok t →
      { t with cart := snap.cart, cfg := snap.cfg } = snap ∧ t.cart.ctl = snap.cart.ctl ∧ t.cart.xram = snap.cart.xram ∧
      t.cart.rom = s.cart.rom ∧ t.cart.romSize = s.cart.romSize ∧ t.cart.xramSize = s.cart.xramSize ∧ t.cfg = s.cfg) ∧
    ∀ snap s : State, snap.cpu.f &&& 0x0F ≠ 0 → restore snap s = .error .snapshotRefused

/-- An image shorter than 0x014A bytes, or whose kind byte is in no row of R91, is refused; any other gives the reset state:
the parameters' register values, the halted flag clear, every byte of mem, at all 65536 addresses, and of the external RAM
as INIT_MEM and INIT_XRAM give it but DIV 0, LY 0 and STAT 0x02, the accumulators 0, no button pressed and both select bits
0, the PixelUnit in mode 2 with clock 0, the sound off with every value 0 but the noise register 0x7FFF, the controller of
the kind byte at its load values and the RAM size of the byte at 0x0149. (spec/70_reset_and_hazards.md R561,
spec/20_memory.md R61, R90, R91, R92, R93, R94, R97, R98, R99, spec/63_sound_unit.md R539, spec/10_state.md R33, R35, R37,
log entry 3 for how INIT_MEM and INIT_XRAM are given) -/
def Obligations.LoadAndReset : Prop :=
  ∀ (c : Config) (bytes : List Byte), let kind := (bytes.getD 0x0147 0).toNat
    let supported := kind = 0 ∨ 1 ≤ kind ∧ kind ≤ 3 ∨ 0x0F ≤ kind ∧ kind ≤ 0x13 ∨ 0x19 ≤ kind ∧ kind ≤ 0x1E
    (bytes.length < 0x014A → load c bytes = .error (.imageTooShort bytes.length)) ∧
    (0x014A ≤ bytes.length → ¬ supported → load c bytes = .error (.unsupportedKind (bytes.getD 0x0147 0))) ∧
    (0x014A ≤ bytes.length → supported → ∃ s, load c bytes = .ok s ∧
      s.cpu = ⟨c.resetA, c.resetF, c.resetB, c.resetC, c.resetD, c.resetE, c.resetH, c.resetL, c.resetSp, c.resetPc, c.resetIme,
        false⟩ ∧
      (∀ a, a < 0x10000 → s.mem.read a =
        if a = 0xFF41 then 0x02 else if a = 0xFF44 ∨ a = 0xFF04 then 0x00 else listed c.initMemBytes a) ∧
      s.timer = { divAcc := 0, timaAcc := 0 } ∧ s.joypad = ⟨0, ⟨false, false, false, false, false, false, false, false⟩⟩ ∧
      s.ppu = { mode := .oamSearch, clock := 0, scrollCache := Vector.replicate 154 (0, 0), frame := [] } ∧
      s.snd =
        { power := false, nr := Vector.replicate 22 0, wave := Vector.replicate 16 0, fsAcc := 0, fsStep := 0,
          sampleAcc := 0, ch1 := { enabled := false, length := 0, timer := 0 },
          ch2 := { enabled := false, length := 0, timer := 0 }, ch3 := { enabled := false, length := 0, timer := 0 },
          ch4 := { enabled := false, length := 0, timer := 0 }, env1 := { volume := 0, envTimer := 0 },
          env2 := { volume := 0, envTimer := 0 }, env4 := { volume := 0, envTimer := 0 }, dutyStep1 := 0, dutyStep2 := 0,
          shadow := 0, sweepTimer := 0, sweepEnabled := false, sampleIndex := 0, lfsr := 0x7FFF } ∧ s.cfg = c ∧
      (∀ k, k < bytes.length → s.cart.romByte k = bytes.getD k 0) ∧ (∀ k, bytes.length ≤ k → s.cart.romByte k = 0xFF) ∧
      s.cart.ctl = (if kind = 0 then .flat else if kind ≤ 3 then .mbc1 false 1 0 false
        else if kind ≤ 0x13 then .mbc3 false 1 0 else .mbc5 false 1 0) ∧
      s.cart.xramSize = [0, 2048, 8192, 32768, 131072, 65536].getD (bytes.getD 0x0149 0).toNat 0 ∧
      ∀ k, k < s.cart.xramSize → Cells.read initZero s.cart.xram k = listed c.initXramBytes k)
end

