-- ==== Sys2Proof/Laws/Memory.lean ====
section
/-! SUPPORT. The laws of the sparse stores: what a read gives after a write, that a write keeps the canonical form, and that
two canonical stores that read alike are equal. -/

namespace Sys2Proof.Machine

variable {dflt : Nat → Byte} {size : Nat}

@[simp] theorem Cells.read_nil (a : Nat) : Cells.read dflt [] a = dflt a := rfl

theorem Cells.read_cons (p : Host.Cell) (m : Memory) (a : Nat) :
    Cells.read dflt (p :: m) a = if p.1 = a then p.2 else Cells.read dflt m a := rfl

/-- An address below every listed one reads as unlisted. -/
theorem Cells.read_eq_dflt {m : Memory} {a : Nat} (h : ∀ p ∈ m, p.1 ≠ a) : Cells.read dflt m a = dflt a := by
  induction m with
  | nil => rfl
  | cons p m ih =>
    rw [Cells.read_cons, if_neg (h p (by simp)), ih (fun q hq => h q (by simp [hq]))]

theorem Cells.mem_insert {a : Nat} {v : Byte} {m : Memory} {p : Host.Cell} (h : p ∈ Cells.insert a v m) :
    p = (a, v) ∨ p ∈ m := by
  induction m with
  | nil => simpa [Cells.insert] using h
  | cons q m ih =>
    simp only [Cells.insert] at h
    split at h
    · simpa using h
    · split at h
      · simp only [List.mem_cons] at h ⊢
        tauto
      · simp only [List.mem_cons] at h ⊢
        rcases h with h | h
        · exact .inr (.inl h)
        · rcases ih h with h | h <;> tauto

theorem Cells.read_insert (a b : Nat) (v : Byte) (m : Memory) (hm : m.Pairwise (fun p q => p.1 < q.1)) :
    Cells.read dflt (Cells.insert a v m) b = if a = b then v else Cells.read dflt m b := by
  induction m with
  | nil => simp [Cells.insert, Cells.read]
  | cons p m ih =>
    rw [List.pairwise_cons] at hm
    simp only [Cells.insert]
    split
    · simp [Cells.read_cons]
    · split
      · rename_i h
        subst h
        simp only [Cells.read_cons]
        split <;> rfl
      · rename_i h1 h2
        rw [Cells.read_cons, ih hm.2, Cells.read_cons]
        split_ifs <;> first | rfl | omega

theorem Cells.read_erase (a b : Nat) (m : Memory) (hm : m.Pairwise (fun p q => p.1 < q.1)) :
    Cells.read dflt (Cells.erase a m) b = if a = b then dflt a else Cells.read dflt m b := by
  induction m with
  | nil => simp only [Cells.erase, List.filter_nil, Cells.read_nil]; split <;> simp_all
  | cons p m ih =>
    rw [List.pairwise_cons] at hm
    have ih := ih hm.2
    simp only [Cells.erase, List.filter_cons] at ih ⊢
    by_cases h : p.1 = a
    · simp only [h, ne_eq, not_true_eq_false, decide_false, Bool.false_eq_true, if_false, ih, Cells.read_cons]
      split <;> simp_all
    · simp only [ne_eq, h, not_false_eq_true, decide_true, if_true, Cells.read_cons, ih]
      split_ifs <;> first | rfl | omega

/-- A read of a store after a write. -/
theorem Cells.read_write (a b : Nat) (v : Byte) (m : Memory) (hm : m.Pairwise (fun p q => p.1 < q.1)) :
    Cells.read dflt (Cells.write dflt m a v) b = if a = b then v else Cells.read dflt m b := by
  unfold Cells.write
  split
  · rename_i h
    rw [Cells.read_erase _ _ _ hm, h]
  · exact Cells.read_insert _ _ _ _ hm

theorem Cells.pairwise_insert (a : Nat) (v : Byte) (m : Memory) (hm : m.Pairwise (fun p q => p.1 < q.1)) :
    (Cells.insert a v m).Pairwise (fun p q => p.1 < q.1) := by
  induction m with
  | nil => simp [Cells.insert]
  | cons p m ih =>
    rw [List.pairwise_cons] at hm
    simp only [Cells.insert]
    split
    · rename_i h
      refine List.pairwise_cons.2 ⟨fun q hq => ?_, List.pairwise_cons.2 hm⟩
      rcases List.mem_cons.1 hq with rfl | hq
      · exact h
      · exact lt_trans h (hm.1 q hq)
    · split
      · rename_i h
        exact List.pairwise_cons.2 ⟨fun q hq => h ▸ hm.1 q hq, hm.2⟩
      · refine List.pairwise_cons.2 ⟨fun q hq => ?_, ih hm.2⟩
        rcases Cells.mem_insert hq with rfl | hq
        · simp only
          omega
        · exact hm.1 q hq

/-- A write keeps the canonical form. -/
theorem Cells.wf_write {m : Memory} (h : Cells.Wf dflt size m) {a : Nat} (ha : a < size) (v : Byte) :
    Cells.Wf dflt size (Cells.write dflt m a v) := by
  unfold Cells.write
  split
  · exact ⟨h.1.filter _, fun p hp => h.2 p (List.mem_of_mem_filter hp)⟩
  · rename_i hv
    refine ⟨Cells.pairwise_insert _ _ _ h.1, fun p hp => ?_⟩
    rcases Cells.mem_insert hp with rfl | hp
    · exact ⟨ha, hv⟩
    · exact h.2 p hp

/-- Two canonical stores that read alike everywhere are equal. -/
theorem Cells.ext {m n : Memory} (hm : Cells.Wf dflt size m) (hn : Cells.Wf dflt size n)
    (h : ∀ a, Cells.read dflt m a = Cells.read dflt n a) : m = n := by
  have key : ∀ {m n : Memory}, Cells.Wf dflt size m → n.Pairwise (fun p q => p.1 < q.1) →
      (∀ a, Cells.read dflt m a = Cells.read dflt n a) → ∀ p ∈ m, p ∈ n := by
    intro m n hm hn h p hp
    have hread : ∀ {l : Memory}, l.Pairwise (fun p q => p.1 < q.1) → ∀ q ∈ l, Cells.read dflt l q.1 = q.2 := by
      intro l hl
      induction l with
      | nil => simp
      | cons r l ih =>
        rw [List.pairwise_cons] at hl
        intro q hq
        rcases List.mem_cons.1 hq with rfl | hq
        · simp [Cells.read_cons]
        · rw [Cells.read_cons, if_neg (ne_of_lt (hl.1 q hq)), ih hl.2 q hq]
    have hv := hread hm.1 p hp
    rw [h] at hv
    by_contra hnot
    have : ∀ q ∈ n, q.1 ≠ p.1 := by
      intro q hq he
      have := hread hn q hq
      rw [he, hv] at this
      exact hnot (by rwa [show p = q from Prod.ext he.symm this])
    exact (hm.2 p hp).2 (by rw [← hv, Cells.read_eq_dflt this])
  have hp : List.Perm m n := by
    have nd : ∀ {l : Memory}, l.Pairwise (fun p q => p.1 < q.1) → l.Nodup := fun hl =>
      hl.imp (fun hlt he => by simp [he] at hlt)
    exact (List.perm_ext_iff_of_nodup (nd hm.1) (nd hn.1)).2 fun p =>
      ⟨key hm hn.1 h p, key hn hm.1 (fun a => (h a).symm) p⟩
  exact hp.eq_of_pairwise (fun a b _ _ h1 h2 => absurd (lt_trans h1 h2) (lt_irrefl _)) hm.1 hn.1

/-- Writes to two addresses commute on a canonical store. -/
theorem Cells.write_comm {m : Memory} (h : Cells.Wf dflt size m) {a b : Nat} (ha : a < size) (hb : b < size) (hab : a ≠ b)
    (v w : Byte) :
    Cells.write dflt (Cells.write dflt m a v) b w = Cells.write dflt (Cells.write dflt m b w) a v := by
  apply Cells.ext (Cells.wf_write (Cells.wf_write h ha v) hb w) (Cells.wf_write (Cells.wf_write h hb w) ha v)
  intro c
  rw [Cells.read_write _ _ _ _ (Cells.wf_write h ha v).1, Cells.read_write _ _ _ _ h.1,
    Cells.read_write _ _ _ _ (Cells.wf_write h hb w).1, Cells.read_write _ _ _ _ h.1]
  split_ifs <;> first | rfl | omega

/-- Writing back what is there changes nothing. -/
theorem Cells.write_read {m : Memory} (h : Cells.Wf dflt size m) {a : Nat} (ha : a < size) :
    Cells.write dflt m a (Cells.read dflt m a) = m := by
  apply Cells.ext (Cells.wf_write h ha _) h
  intro c
  rw [Cells.read_write _ _ _ _ h.1]
  split
  · rename_i e
    rw [e]
  · rfl

/-- The later of two writes to one address stands. -/
theorem Cells.write_write {m : Memory} (h : Cells.Wf dflt size m) {a : Nat} (ha : a < size) (v w : Byte) :
    Cells.write dflt (Cells.write dflt m a v) a w = Cells.write dflt m a w := by
  apply Cells.ext (Cells.wf_write (Cells.wf_write h ha v) ha w) (Cells.wf_write h ha w)
  intro c
  rw [Cells.read_write _ _ _ _ (Cells.wf_write h ha v).1, Cells.read_write _ _ _ _ h.1, Cells.read_write _ _ _ _ h.1]
  split_ifs <;> rfl

/-- A store built from bytes at addresses inside it is canonical. -/
theorem Cells.wf_ofList (l : List (Nat × Byte)) (h : ∀ p ∈ l, p.1 < size) : Cells.Wf dflt size (Cells.ofList dflt l) := by
  have key : ∀ m, Cells.Wf dflt size m → Cells.Wf dflt size (l.foldl (fun m p => Cells.write dflt m p.1 p.2) m) := by
    induction l with
    | nil => exact fun _ hm => hm
    | cons q l ih =>
      exact fun m hm => ih (fun p hp => h p (by simp [hp])) _ (Cells.wf_write hm (h q (by simp)) q.2)
  exact key [] (by simp [Cells.Wf])

/-- A read of the raw byte array after a write. -/
theorem Memory.read_write {m : Memory} (h : m.wf) (a b : Nat) (v : Byte) :
    (m.write a v).read b = if a = b then v else m.read b := Cells.read_write a b v m h.1

/-- A write to the raw byte array keeps its canonical form. -/
theorem Memory.wf_write {m : Memory} (h : m.wf) {a : Nat} (ha : a < 0x10000) (v : Byte) : (m.write a v).wf :=
  Cells.wf_write h ha v

/-- Writes of the raw byte array to two addresses commute. -/
theorem Memory.write_comm {m : Memory} (h : m.wf) {a b : Nat} (ha : a < 0x10000) (hb : b < 0x10000) (hab : a ≠ b) (v w : Byte) :
    (m.write a v).write b w = (m.write b w).write a v := Cells.write_comm h ha hb hab v w

/-- The later of two writes of the raw byte array to one address stands. -/
theorem Memory.write_write {m : Memory} (h : m.wf) {a : Nat} (ha : a < 0x10000) (v w : Byte) :
    (m.write a v).write a w = m.write a w := Cells.write_write h ha v w

/-- Two canonical raw byte arrays that read alike are equal. -/
theorem Memory.ext {m n : Memory} (hm : m.wf) (hn : n.wf) (h : ∀ a, m.read a = n.read a) : m = n := Cells.ext hm hn h

theorem Memory.wf_nil : Memory.wf [] := by simp [Memory.wf, Cells.Wf]

/-- The raw byte array after reset is canonical, whatever INIT_MEM is (R61). -/
theorem Memory.wf_reset (bytes : List (Nat × Byte)) : (Memory.reset bytes).wf := by
  have h : Memory.wf (Cells.ofList initMem (bytes.filter (fun p => p.1 < 0x10000))) :=
    Cells.wf_ofList _ (fun p hp => by simpa using (List.mem_filter.1 hp).2)
  exact Memory.wf_write (Memory.wf_write (Memory.wf_write h (by omega) _) (by omega) _) (by omega) _

end Sys2Proof.Machine
end

