-- ==== Sys2Proof/Laws/State.lean ====
section
/-! SUPPORT. One lemma per field per update of the state and of the Processor, true by `rfl` or by the cases of a register name,
so that no later proof unfolds an update. -/

namespace Sys2Proof.Machine

@[simp] theorem State.setReg_cpu (s : State) (r : Reg) (v : Byte) : (s.setReg r v).cpu = s.cpu.setReg r v := rfl
@[simp] theorem State.setReg_mem (s : State) (r : Reg) (v : Byte) : (s.setReg r v).mem = s.mem := rfl
@[simp] theorem State.setReg_timer (s : State) (r : Reg) (v : Byte) : (s.setReg r v).timer = s.timer := rfl
@[simp] theorem State.setReg_ppu (s : State) (r : Reg) (v : Byte) : (s.setReg r v).ppu = s.ppu := rfl
@[simp] theorem State.setReg_snd (s : State) (r : Reg) (v : Byte) : (s.setReg r v).snd = s.snd := rfl
@[simp] theorem State.setReg_joypad (s : State) (r : Reg) (v : Byte) : (s.setReg r v).joypad = s.joypad := rfl
@[simp] theorem State.setReg_cart (s : State) (r : Reg) (v : Byte) : (s.setReg r v).cart = s.cart := rfl
@[simp] theorem State.setReg_cfg (s : State) (r : Reg) (v : Byte) : (s.setReg r v).cfg = s.cfg := rfl
@[simp] theorem State.setReg_out (s : State) (r : Reg) (v : Byte) : (s.setReg r v).out = s.out := rfl

@[simp] theorem State.setPair_cpu (s : State) (p : Pair) (w : Word) : (s.setPair p w).cpu = s.cpu.setPair p w := rfl
@[simp] theorem State.setPair_mem (s : State) (p : Pair) (w : Word) : (s.setPair p w).mem = s.mem := rfl
@[simp] theorem State.setPair_timer (s : State) (p : Pair) (w : Word) : (s.setPair p w).timer = s.timer := rfl
@[simp] theorem State.setPair_ppu (s : State) (p : Pair) (w : Word) : (s.setPair p w).ppu = s.ppu := rfl
@[simp] theorem State.setPair_snd (s : State) (p : Pair) (w : Word) : (s.setPair p w).snd = s.snd := rfl
@[simp] theorem State.setPair_joypad (s : State) (p : Pair) (w : Word) : (s.setPair p w).joypad = s.joypad := rfl
@[simp] theorem State.setPair_cart (s : State) (p : Pair) (w : Word) : (s.setPair p w).cart = s.cart := rfl
@[simp] theorem State.setPair_cfg (s : State) (p : Pair) (w : Word) : (s.setPair p w).cfg = s.cfg := rfl
@[simp] theorem State.setPair_out (s : State) (p : Pair) (w : Word) : (s.setPair p w).out = s.out := rfl

@[simp] theorem State.setFlags_cpu (s : State) (f : Flags) : (s.setFlags f).cpu = s.cpu.setFlags f := rfl
@[simp] theorem State.setFlags_mem (s : State) (f : Flags) : (s.setFlags f).mem = s.mem := rfl
@[simp] theorem State.setFlags_timer (s : State) (f : Flags) : (s.setFlags f).timer = s.timer := rfl
@[simp] theorem State.setFlags_ppu (s : State) (f : Flags) : (s.setFlags f).ppu = s.ppu := rfl
@[simp] theorem State.setFlags_snd (s : State) (f : Flags) : (s.setFlags f).snd = s.snd := rfl
@[simp] theorem State.setFlags_joypad (s : State) (f : Flags) : (s.setFlags f).joypad = s.joypad := rfl
@[simp] theorem State.setFlags_cart (s : State) (f : Flags) : (s.setFlags f).cart = s.cart := rfl
@[simp] theorem State.setFlags_cfg (s : State) (f : Flags) : (s.setFlags f).cfg = s.cfg := rfl
@[simp] theorem State.setFlags_out (s : State) (f : Flags) : (s.setFlags f).out = s.out := rfl

@[simp] theorem State.setPc_cpu (s : State) (w : Word) : (s.setPc w).cpu = { s.cpu with pc := w } := rfl
@[simp] theorem State.setPc_mem (s : State) (w : Word) : (s.setPc w).mem = s.mem := rfl
@[simp] theorem State.setPc_timer (s : State) (w : Word) : (s.setPc w).timer = s.timer := rfl
@[simp] theorem State.setPc_ppu (s : State) (w : Word) : (s.setPc w).ppu = s.ppu := rfl
@[simp] theorem State.setPc_snd (s : State) (w : Word) : (s.setPc w).snd = s.snd := rfl
@[simp] theorem State.setPc_joypad (s : State) (w : Word) : (s.setPc w).joypad = s.joypad := rfl
@[simp] theorem State.setPc_cart (s : State) (w : Word) : (s.setPc w).cart = s.cart := rfl
@[simp] theorem State.setPc_cfg (s : State) (w : Word) : (s.setPc w).cfg = s.cfg := rfl
@[simp] theorem State.setPc_out (s : State) (w : Word) : (s.setPc w).out = s.out := rfl

@[simp] theorem State.setSp_cpu (s : State) (w : Word) : (s.setSp w).cpu = { s.cpu with sp := w } := rfl
@[simp] theorem State.setSp_mem (s : State) (w : Word) : (s.setSp w).mem = s.mem := rfl
@[simp] theorem State.setSp_timer (s : State) (w : Word) : (s.setSp w).timer = s.timer := rfl
@[simp] theorem State.setSp_ppu (s : State) (w : Word) : (s.setSp w).ppu = s.ppu := rfl
@[simp] theorem State.setSp_snd (s : State) (w : Word) : (s.setSp w).snd = s.snd := rfl
@[simp] theorem State.setSp_joypad (s : State) (w : Word) : (s.setSp w).joypad = s.joypad := rfl
@[simp] theorem State.setSp_cart (s : State) (w : Word) : (s.setSp w).cart = s.cart := rfl
@[simp] theorem State.setSp_cfg (s : State) (w : Word) : (s.setSp w).cfg = s.cfg := rfl
@[simp] theorem State.setSp_out (s : State) (w : Word) : (s.setSp w).out = s.out := rfl

@[simp] theorem State.setMem_cpu (s : State) (a : Nat) (v : Byte) : (s.setMem a v).cpu = s.cpu := rfl
@[simp] theorem State.setMem_mem (s : State) (a : Nat) (v : Byte) : (s.setMem a v).mem = s.mem.write a v := rfl
@[simp] theorem State.setMem_timer (s : State) (a : Nat) (v : Byte) : (s.setMem a v).timer = s.timer := rfl
@[simp] theorem State.setMem_ppu (s : State) (a : Nat) (v : Byte) : (s.setMem a v).ppu = s.ppu := rfl
@[simp] theorem State.setMem_snd (s : State) (a : Nat) (v : Byte) : (s.setMem a v).snd = s.snd := rfl
@[simp] theorem State.setMem_joypad (s : State) (a : Nat) (v : Byte) : (s.setMem a v).joypad = s.joypad := rfl
@[simp] theorem State.setMem_cart (s : State) (a : Nat) (v : Byte) : (s.setMem a v).cart = s.cart := rfl
@[simp] theorem State.setMem_cfg (s : State) (a : Nat) (v : Byte) : (s.setMem a v).cfg = s.cfg := rfl
@[simp] theorem State.setMem_out (s : State) (a : Nat) (v : Byte) : (s.setMem a v).out = s.out := rfl

@[simp] theorem State.withCycles_cpu (s : State) (n : Nat) : (s.withCycles n).cpu = s.cpu := rfl
@[simp] theorem State.withCycles_mem (s : State) (n : Nat) : (s.withCycles n).mem = s.mem := rfl
@[simp] theorem State.withCycles_timer (s : State) (n : Nat) : (s.withCycles n).timer = s.timer := rfl
@[simp] theorem State.withCycles_ppu (s : State) (n : Nat) : (s.withCycles n).ppu = s.ppu := rfl
@[simp] theorem State.withCycles_snd (s : State) (n : Nat) : (s.withCycles n).snd = s.snd := rfl
@[simp] theorem State.withCycles_joypad (s : State) (n : Nat) : (s.withCycles n).joypad = s.joypad := rfl
@[simp] theorem State.withCycles_cart (s : State) (n : Nat) : (s.withCycles n).cart = s.cart := rfl
@[simp] theorem State.withCycles_cfg (s : State) (n : Nat) : (s.withCycles n).cfg = s.cfg := rfl
@[simp] theorem State.withCycles_out (s : State) (n : Nat) : (s.withCycles n).out = { s.out with cycles := n } := rfl

@[simp] theorem State.halt_cpu (s : State) : (s.halt).cpu = { s.cpu with halted := true } := rfl
@[simp] theorem State.halt_mem (s : State) : (s.halt).mem = s.mem := rfl
@[simp] theorem State.halt_timer (s : State) : (s.halt).timer = s.timer := rfl
@[simp] theorem State.halt_ppu (s : State) : (s.halt).ppu = s.ppu := rfl
@[simp] theorem State.halt_snd (s : State) : (s.halt).snd = s.snd := rfl
@[simp] theorem State.halt_joypad (s : State) : (s.halt).joypad = s.joypad := rfl
@[simp] theorem State.halt_cart (s : State) : (s.halt).cart = s.cart := rfl
@[simp] theorem State.halt_cfg (s : State) : (s.halt).cfg = s.cfg := rfl
@[simp] theorem State.halt_out (s : State) : (s.halt).out = s.out := rfl

@[simp] theorem State.setIme_cpu (s : State) (b : Bool) : (s.setIme b).cpu = { s.cpu with ime := b } := rfl
@[simp] theorem State.setIme_mem (s : State) (b : Bool) : (s.setIme b).mem = s.mem := rfl
@[simp] theorem State.setIme_timer (s : State) (b : Bool) : (s.setIme b).timer = s.timer := rfl
@[simp] theorem State.setIme_ppu (s : State) (b : Bool) : (s.setIme b).ppu = s.ppu := rfl
@[simp] theorem State.setIme_snd (s : State) (b : Bool) : (s.setIme b).snd = s.snd := rfl
@[simp] theorem State.setIme_joypad (s : State) (b : Bool) : (s.setIme b).joypad = s.joypad := rfl
@[simp] theorem State.setIme_cart (s : State) (b : Bool) : (s.setIme b).cart = s.cart := rfl
@[simp] theorem State.setIme_cfg (s : State) (b : Bool) : (s.setIme b).cfg = s.cfg := rfl
@[simp] theorem State.setIme_out (s : State) (b : Bool) : (s.setIme b).out = s.out := rfl

@[simp] theorem Processor.setReg_f (p : Processor) (r : Reg) (v : Byte) : (p.setReg r v).f = p.f := by cases r <;> rfl
@[simp] theorem Processor.setReg_sp (p : Processor) (r : Reg) (v : Byte) : (p.setReg r v).sp = p.sp := by cases r <;> rfl
@[simp] theorem Processor.setReg_pc (p : Processor) (r : Reg) (v : Byte) : (p.setReg r v).pc = p.pc := by cases r <;> rfl
@[simp] theorem Processor.setReg_ime (p : Processor) (r : Reg) (v : Byte) : (p.setReg r v).ime = p.ime := by cases r <;> rfl
@[simp] theorem Processor.setReg_halted (p : Processor) (r : Reg) (v : Byte) : (p.setReg r v).halted = p.halted := by cases r <;> rfl
@[simp] theorem Processor.setPair_a (p : Processor) (r : Pair) (w : Word) : (p.setPair r w).a = p.a := by cases r <;> rfl
@[simp] theorem Processor.setPair_f (p : Processor) (r : Pair) (w : Word) : (p.setPair r w).f = p.f := by cases r <;> rfl
@[simp] theorem Processor.setPair_pc (p : Processor) (r : Pair) (w : Word) : (p.setPair r w).pc = p.pc := by cases r <;> rfl
@[simp] theorem Processor.setPair_ime (p : Processor) (r : Pair) (w : Word) : (p.setPair r w).ime = p.ime := by cases r <;> rfl
@[simp] theorem Processor.setPair_halted (p : Processor) (r : Pair) (w : Word) : (p.setPair r w).halted = p.halted := by cases r <;> rfl
@[simp] theorem Processor.setFlags_a (p : Processor) (g : Flags) : (p.setFlags g).a = p.a := rfl
@[simp] theorem Processor.setFlags_b (p : Processor) (g : Flags) : (p.setFlags g).b = p.b := rfl
@[simp] theorem Processor.setFlags_c (p : Processor) (g : Flags) : (p.setFlags g).c = p.c := rfl
@[simp] theorem Processor.setFlags_d (p : Processor) (g : Flags) : (p.setFlags g).d = p.d := rfl
@[simp] theorem Processor.setFlags_e (p : Processor) (g : Flags) : (p.setFlags g).e = p.e := rfl
@[simp] theorem Processor.setFlags_h (p : Processor) (g : Flags) : (p.setFlags g).h = p.h := rfl
@[simp] theorem Processor.setFlags_l (p : Processor) (g : Flags) : (p.setFlags g).l = p.l := rfl
@[simp] theorem Processor.setFlags_sp (p : Processor) (g : Flags) : (p.setFlags g).sp = p.sp := rfl
@[simp] theorem Processor.setFlags_pc (p : Processor) (g : Flags) : (p.setFlags g).pc = p.pc := rfl
@[simp] theorem Processor.setFlags_ime (p : Processor) (g : Flags) : (p.setFlags g).ime = p.ime := rfl
@[simp] theorem Processor.setFlags_halted (p : Processor) (g : Flags) : (p.setFlags g).halted = p.halted := rfl
@[simp] theorem Processor.setFlags_f (p : Processor) (g : Flags) : (p.setFlags g).f = g.toByte := rfl
@[simp] theorem Processor.setStackPair_sp (p : Processor) (r : StackPair) (w : Word) : (p.setStackPair r w).sp = p.sp := by
  cases r <;> rfl
@[simp] theorem Processor.setStackPair_pc (p : Processor) (r : StackPair) (w : Word) : (p.setStackPair r w).pc = p.pc := by
  cases r <;> rfl
@[simp] theorem Processor.setStackPair_ime (p : Processor) (r : StackPair) (w : Word) : (p.setStackPair r w).ime = p.ime := by
  cases r <;> rfl
@[simp] theorem Processor.setStackPair_halted (p : Processor) (r : StackPair) (w : Word) : (p.setStackPair r w).halted = p.halted := by
  cases r <;> rfl

/-- A register reads as written; the others are unchanged. -/
theorem Processor.reg_setReg (p : Processor) (r x : Reg) (v : Byte) : (p.setReg r v).reg x = if x = r then v else p.reg x := by
  cases r <;> cases x <;> rfl

@[simp] theorem Processor.setReg_flags (p : Processor) (r : Reg) (v : Byte) : (p.setReg r v).flags = p.flags := by
  cases r <;> rfl

@[simp] theorem Processor.setFlags_reg (p : Processor) (g : Flags) (x : Reg) : (p.setFlags g).reg x = p.reg x := by
  cases x <;> rfl

@[simp] theorem Processor.setFlags_pair (p : Processor) (g : Flags) (x : Pair) : (p.setFlags g).pair x = p.pair x := by
  cases x <;> rfl

@[simp] theorem hi8_joinBytes (a b : Byte) : hi8 (joinBytes a b) = a := by
  simp only [hi8, joinBytes]
  ext i h
  simp only [BitVec.getElem_extractLsb', BitVec.getLsbD_append]
  rw [if_neg (by omega), Nat.add_sub_cancel_left, BitVec.getLsbD_eq_getElem h]

@[simp] theorem lo8_joinBytes (a b : Byte) : lo8 (joinBytes a b) = b := by
  simp only [lo8, joinBytes]
  ext i h
  simp only [BitVec.getElem_extractLsb', BitVec.getLsbD_append]
  rw [if_pos (by omega), Nat.zero_add, BitVec.getLsbD_eq_getElem h]

@[simp] theorem joinBytes_hi8_lo8 (w : Word) : joinBytes (hi8 w) (lo8 w) = w := by
  simp only [hi8, lo8, joinBytes]
  ext i h
  rw [BitVec.getElem_append]
  split
  · simp [BitVec.getElem_extractLsb', BitVec.getLsbD_eq_getElem h]
  · rw [BitVec.getElem_extractLsb', Nat.add_sub_cancel' (by omega), BitVec.getLsbD_eq_getElem h]

/-- A pair reads as written. -/
@[simp] theorem Processor.pair_setPair (p : Processor) (r : Pair) (w : Word) : (p.setPair r w).pair r = w := by
  cases r <;> simp [Processor.setPair, Processor.pair]

/-- The flags read as written. -/
@[simp] theorem Flags.ofByte_toByte (f : Flags) : Flags.ofByte f.toByte = f := by
  rcases f with ⟨z, n, h, c⟩
  revert z n h c
  decide

@[simp] theorem Processor.flags_setFlags (p : Processor) (f : Flags) : (p.setFlags f).flags = f := Flags.ofByte_toByte f

/-- The byte of any flags has a zero low nibble (R23). -/
@[simp] theorem Flags.toByte_low (f : Flags) : f.toByte &&& 0x0F = 0 := by
  rcases f with ⟨z, n, h, c⟩
  revert z n h c
  decide

/-- A byte with a zero low nibble is the byte of its flags (R23). -/
theorem Flags.toByte_ofByte {b : Byte} (h : b &&& 0x0F = 0) : (Flags.ofByte b).toByte = b := by
  revert b
  decide

@[simp] theorem complete_eq (s : State) (n : Nat) : complete s n = .next (s.withCycles n) := rfl

end Sys2Proof.Machine
end

