-- ==== Sys2Proof/Laws/Bus.lean ====
section
/-! SUPPORT. The laws of the bus: what a byte write can change (its cases are those of R63), what it leaves alone, the copy of
R84, and the stack operations. -/

namespace Sys2Proof.Machine

/-- The parts of the state that the copy of R84 does not touch, and the form of what it leaves. -/
theorem dmaCopy_eq (s : State) (v : Byte) : ∃ m, dmaCopy s v = { s with mem := m } := by
  unfold dmaCopy
  generalize List.range 160 = l
  induction l generalizing s with
  | nil => exact ⟨s.mem, rfl⟩
  | cons i l ih =>
    obtain ⟨m, hm⟩ := ih (s.setMem (0xFE00 + i) (memRead s ((v ++ 0#8) + BitVec.ofNat 16 i)))
    refine ⟨m, ?_⟩
    simp only [List.foldl_cons]
    rw [hm]
    rfl

/-- The copy keeps every property that storing a byte of sprite attribute memory keeps. -/
theorem dmaCopy_keeps {P : State → Prop} (h : ∀ s a v, 0xFE00 ≤ a → a < 0xFEA0 → P s → P (s.setMem a v)) {s : State} (hs : P s)
    (v : Byte) : P (dmaCopy s v) := by
  unfold dmaCopy
  have key : ∀ (l : List Nat), (∀ i ∈ l, i < 160) → ∀ s, P s →
      P (l.foldl (fun t i => t.setMem (0xFE00 + i) (memRead t ((v ++ 0#8) + BitVec.ofNat 16 i))) s) := by
    intro l
    induction l with
    | nil => exact fun _ s hs => hs
    | cons i l ih =>
      intro hl s hs
      have hi := hl i (by simp)
      exact ih (fun j hj => hl j (by simp [hj])) _ (h _ _ _ (by omega) (by omega) hs)
  exact key _ (fun i hi => List.mem_range.1 hi) s hs

/-- The regions of R63, each address in one of them. -/
theorem writeRegions (a : Nat) : a < 0x8000 ∨ (0x8000 ≤ a ∧ a < 0xA000) ∨ (0xA000 ≤ a ∧ a < 0xC000) ∨ (0xC000 ≤ a ∧ a < 0xE000) ∨
    (0xE000 ≤ a ∧ a < 0xFE00) ∨ (0xFE00 ≤ a ∧ a < 0xFEA0) ∨ (0xFEA0 ≤ a ∧ a < 0xFF00) ∨ a = 0xFF00 ∨ a = 0xFF04 ∨
    (0xFF10 ≤ a ∧ a ≤ 0xFF3F) ∨ a = 0xFF41 ∨ a = 0xFF44 ∨ a = 0xFF46 ∨
    (0xFF00 < a ∧ a ≠ 0xFF04 ∧ a ≠ 0xFF41 ∧ a ≠ 0xFF44 ∧ a ≠ 0xFF46 ∧ ¬ (0xFF10 ≤ a ∧ a ≤ 0xFF3F)) := by
  omega

section Regions

variable {s : State} {addr : Word} {v : Byte}

/-- A write to its region (R63, R96). -/
theorem memWrite_rom (h : addr.toNat < 0x8000) : memWrite s addr v = { s with cart := s.cart.writeRom addr.toNat v } := by
  simp (disch := omega) only [memWrite, if_pos]

/-- A write to its region (R75). -/
theorem memWrite_vram (h : 0x8000 ≤ addr.toNat ∧ addr.toNat < 0xA000) : memWrite s addr v = s.setMem addr.toNat v := by
  simp (disch := omega) only [memWrite, if_pos, if_neg]

/-- A write to its region (R95). -/
theorem memWrite_xram (h : 0xA000 ≤ addr.toNat ∧ addr.toNat < 0xC000) : memWrite s addr v = { s with cart := s.cart.writeRam addr.toNat v } := by
  simp (disch := omega) only [memWrite, if_pos, if_neg]

/-- A write to its region (R76). -/
theorem memWrite_wram (h : 0xC000 ≤ addr.toNat ∧ addr.toNat < 0xE000) : memWrite s addr v = s.setMem addr.toNat v := by
  simp (disch := omega) only [memWrite, if_pos, if_neg]

/-- A write to its region (R77). -/
theorem memWrite_echo (h : 0xE000 ≤ addr.toNat ∧ addr.toNat < 0xFE00) : memWrite s addr v = s.setMem (addr.toNat - 0x2000) v := by
  simp (disch := omega) only [memWrite, if_pos, if_neg]

/-- A write to its region (R78). -/
theorem memWrite_oam (h : 0xFE00 ≤ addr.toNat ∧ addr.toNat < 0xFEA0) : memWrite s addr v = s.setMem addr.toNat v := by
  simp (disch := omega) only [memWrite, if_pos, if_neg]

/-- A write to its region (R78). -/
theorem memWrite_unusable (h : 0xFEA0 ≤ addr.toNat ∧ addr.toNat < 0xFF00) : memWrite s addr v = s := by
  simp (disch := omega) only [memWrite, if_pos, if_neg]

/-- A write to its region (R80). -/
theorem memWrite_joypad (h : addr.toNat = 0xFF00) : memWrite s addr v = { s with joypad := { s.joypad with sel := v.extractLsb' 4 2 } } := by
  simp (disch := omega) only [memWrite, if_pos, if_neg]

/-- A write to its region (R382). -/
theorem memWrite_div (h : addr.toNat = 0xFF04) : memWrite s addr v = { s.setMem 0xFF04 0 with timer := { s.timer with divAcc := 0 } } := by
  simp (disch := omega) only [memWrite, if_pos, if_neg]

/-- A write to its region (R83). -/
theorem memWrite_sound (h : 0xFF10 ≤ addr.toNat ∧ addr.toNat ≤ 0xFF3F) : memWrite s addr v = { s with snd := s.snd.write addr.toNat v } := by
  simp (disch := omega) only [memWrite, if_pos, if_neg]

/-- A write to its region (R402). -/
theorem memWrite_stat (h : addr.toNat = 0xFF41) : memWrite s addr v = s.setMem 0xFF41 (statWrite (s.mem.read 0xFF41) v) := by
  simp (disch := omega) only [memWrite, if_neg, h, ↓reduceIte]

/-- A write to its region (R404). -/
theorem memWrite_ly (h : addr.toNat = 0xFF44) : memWrite s addr v = s := by
  simp (disch := omega) only [memWrite, if_pos, if_neg]

/-- A write to its region (R84). -/
theorem memWrite_dma (h : addr.toNat = 0xFF46) : memWrite s addr v = dmaCopy (s.setMem 0xFF46 v) v := by
  simp (disch := omega) only [memWrite, if_neg, h, ↓reduceIte]

/-- A write to its region (R79). -/
theorem memWrite_plain (h : 0xFF00 < addr.toNat ∧ addr.toNat ≠ 0xFF04 ∧ addr.toNat ≠ 0xFF41 ∧
    addr.toNat ≠ 0xFF44 ∧ addr.toNat ≠ 0xFF46 ∧ ¬ (0xFF10 ≤ addr.toNat ∧ addr.toNat ≤ 0xFF3F)) : memWrite s addr v = s.setMem addr.toNat v := by
  simp (disch := omega) only [memWrite, if_neg]

end Regions

/-- Everything a byte write can do: a cell of `mem` that some rule uses is stored (DIV also clears its accumulator, and 0xFF46
then copies), or one of the bank controller, the external RAM, the sound unit and the joypad select bits changes, or nothing. -/
theorem memWrite_cases (s : State) (addr : Word) (v : Byte) :
    (∃ w, memWrite s addr v = { s with cart := s.cart.writeRom w v }) ∨
    (∃ a, a < 0xC000 ∧ 0xA000 ≤ a ∧ memWrite s addr v = { s with cart := s.cart.writeRam a v }) ∨
    (∃ a w, (0x8000 ≤ a ∧ a < 0xA000 ∨ 0xC000 ≤ a ∧ a < 0xE000 ∨ 0xFE00 ≤ a ∧ a < 0xFEA0 ∨
        0xFF00 < a ∧ a < 0x10000 ∧ a ≠ 0xFF04 ∧ a ≠ 0xFF41 ∧ a ≠ 0xFF44 ∧ ¬ (0xFF10 ≤ a ∧ a ≤ 0xFF3F)) ∧
        memWrite s addr v = s.setMem a w) ∨
    (memWrite s addr v = s.setMem 0xFF41 (statWrite (s.mem.read 0xFF41) v)) ∨
    (memWrite s addr v = { s.setMem 0xFF04 0 with timer := { s.timer with divAcc := 0 } }) ∨
    (memWrite s addr v = dmaCopy (s.setMem 0xFF46 v) v) ∨
    (∃ a, 0xFF10 ≤ a ∧ a ≤ 0xFF3F ∧ memWrite s addr v = { s with snd := s.snd.write a v }) ∨
    (memWrite s addr v = { s with joypad := { s.joypad with sel := v.extractLsb' 4 2 } }) ∨
    memWrite s addr v = s := by
  have hlt := addr.isLt
  rcases writeRegions addr.toNat with
    h | h | h | h | h | h | h | h | h | h | h | h | h | h
  · exact .inl ⟨_, memWrite_rom h⟩
  · exact .inr (.inr (.inl ⟨_, _, by omega, memWrite_vram h⟩))
  · exact .inr (.inl ⟨_, h.2, h.1, memWrite_xram h⟩)
  · exact .inr (.inr (.inl ⟨_, _, by omega, memWrite_wram h⟩))
  · exact .inr (.inr (.inl ⟨_, _, by omega, memWrite_echo h⟩))
  · exact .inr (.inr (.inl ⟨_, _, by omega, memWrite_oam h⟩))
  · exact .inr (.inr (.inr (.inr (.inr (.inr (.inr (.inr (memWrite_unusable h))))))))
  · exact .inr (.inr (.inr (.inr (.inr (.inr (.inr (.inl (memWrite_joypad h))))))))
  · exact .inr (.inr (.inr (.inr (.inl (memWrite_div h)))))
  · exact .inr (.inr (.inr (.inr (.inr (.inr (.inl ⟨_, h.1, h.2, memWrite_sound h⟩))))))
  · exact .inr (.inr (.inr (.inl (memWrite_stat h))))
  · exact .inr (.inr (.inr (.inr (.inr (.inr (.inr (.inr (memWrite_ly h))))))))
  · exact .inr (.inr (.inr (.inr (.inr (.inl (memWrite_dma h))))))
  · exact .inr (.inr (.inl ⟨_, _, by omega, memWrite_plain h⟩))

/-- A byte write never touches the Processor, the PixelUnit, the configuration or the outputs. -/
theorem memWrite_keeps (s : State) (addr : Word) (v : Byte) :
    (memWrite s addr v).cpu = s.cpu ∧ (memWrite s addr v).ppu = s.ppu ∧ (memWrite s addr v).cfg = s.cfg ∧
      (memWrite s addr v).out = s.out ∧ (memWrite s addr v).timer.timaAcc = s.timer.timaAcc := by
  obtain ⟨m, hm⟩ := dmaCopy_eq (s.setMem 0xFF46 v) v
  rcases memWrite_cases s addr v with ⟨_, h⟩ | ⟨_, _, _, h⟩ | ⟨_, _, _, h⟩ | h | h | h | ⟨_, _, _, h⟩ | h | h <;>
    rw [h] <;> (try rw [hm]) <;> exact ⟨rfl, rfl, rfl, rfl, rfl⟩

@[simp] theorem memWrite_cpu (s : State) (addr : Word) (v : Byte) : (memWrite s addr v).cpu = s.cpu := (memWrite_keeps s addr v).1
@[simp] theorem memWrite_ppu (s : State) (addr : Word) (v : Byte) : (memWrite s addr v).ppu = s.ppu := (memWrite_keeps s addr v).2.1
@[simp] theorem memWrite_cfg (s : State) (addr : Word) (v : Byte) : (memWrite s addr v).cfg = s.cfg :=
  (memWrite_keeps s addr v).2.2.1
@[simp] theorem memWrite_out (s : State) (addr : Word) (v : Byte) : (memWrite s addr v).out = s.out :=
  (memWrite_keeps s addr v).2.2.2.1
@[simp] theorem memWrite_timaAcc (s : State) (addr : Word) (v : Byte) :
    (memWrite s addr v).timer.timaAcc = s.timer.timaAcc := (memWrite_keeps s addr v).2.2.2.2

/-- A byte write does not look at the Processor: it may be changed before or after. -/
theorem memWrite_withCpu (s : State) (p : Processor) (addr : Word) (v : Byte) :
    memWrite { s with cpu := p } addr v = { memWrite s addr v with cpu := p } := by
  have hd : ∀ s : State, dmaCopy { s with cpu := p } v = { dmaCopy s v with cpu := p } := by
    intro s
    unfold dmaCopy
    generalize List.range 160 = l
    induction l generalizing s with
    | nil => rfl
    | cons i l ih => exact ih (s.setMem (0xFE00 + i) (memRead s ((v ++ 0#8) + BitVec.ofNat 16 i)))
  rcases writeRegions addr.toNat with
    h | h | h | h | h | h | h | h | h | h | h | h | h | h
  · simp only [memWrite_rom h]
  · simp only [memWrite_vram h, State.setMem]
  · simp only [memWrite_xram h]
  · simp only [memWrite_wram h, State.setMem]
  · simp only [memWrite_echo h, State.setMem]
  · simp only [memWrite_oam h, State.setMem]
  · rw [memWrite_unusable h, memWrite_unusable h]
  · simp only [memWrite_joypad h]
  · simp only [memWrite_div h, State.setMem]
  · simp only [memWrite_sound h]
  · simp only [memWrite_stat h, State.setMem]
  · rw [memWrite_ly h, memWrite_ly h]
  · rw [memWrite_dma h, memWrite_dma h]
    exact hd (s.setMem 0xFF46 v)
  · simp only [memWrite_plain h, State.setMem]

@[simp] theorem memRead_withCpu (s : State) (p : Processor) (addr : Word) : memRead { s with cpu := p } addr = memRead s addr := rfl

@[simp] theorem memRead_withCycles (s : State) (n : Nat) (addr : Word) : memRead (s.withCycles n) addr = memRead s addr := rfl

/-- A property of the state that does not look at the Processor is kept by a push if every byte write keeps it. -/
theorem push16_keeps {P : State → Prop} (hcpu : ∀ s p, P s → P { s with cpu := p }) (hw : ∀ s a v, P s → P (memWrite s a v))
    {s : State} (hs : P s) (w : Word) : P (push16 s w) := hw _ _ _ (hcpu _ _ (hw _ _ _ (hcpu _ _ hs)))

/-- A push lowers SP by 2 and changes nothing else of the Processor (R180). -/
@[simp] theorem push16_cpu (s : State) (w : Word) : (push16 s w).cpu = { s.cpu with sp := s.cpu.sp - 2 } := by
  unfold push16
  simp only [memWrite_cpu, State.setSp_cpu]
  congr 1
  rw [BitVec.sub_sub]
  rfl

/-- A push is its two byte writes, the high byte first (R180). -/
theorem push16_eq (s : State) (w : Word) :
    push16 s w =
      { memWrite (memWrite s (s.cpu.sp - 1) (hi8 w)) (s.cpu.sp - 2) (lo8 w) with cpu := { s.cpu with sp := s.cpu.sp - 2 } } := by
  have h2 : s.cpu.sp - 1 - 1 = s.cpu.sp - 2 := by rw [BitVec.sub_sub]; rfl
  simp only [push16, State.setSp, memWrite_withCpu, h2]

@[simp] theorem popSp_cpu (s : State) : (popSp s).cpu = { s.cpu with sp := s.cpu.sp + 2 } := rfl

end Sys2Proof.Machine
end

