-- ==== Sys2Proof/Laws/Counting.lean ====
section
/-! SUPPORT. The closed forms of Machine/Counting.lean satisfy the equations of the loops that the rules write (R386, R480,
R500, R535): the loop stops when its test fails, and otherwise its body runs once and it goes on. -/

namespace Sys2Proof.Machine

/-- The loop of `countUp` does not run when the sum is below the period. -/
theorem countUp_stop {period acc c : Nat} (h : acc + c < period) : countUp period acc c = (acc + c, 0) := by
  simp [countUp, Nat.mod_eq_of_lt h, Nat.div_eq_of_lt h]

/-- One turn of the loop of `countUp`. -/
theorem countUp_turn {period acc c : Nat} (hp : 0 < period) (h : period ≤ acc + c) :
    countUp period acc c =
      ((countUp period (acc + c - period) 0).1, (countUp period (acc + c - period) 0).2 + 1) := by
  simp only [countUp, Nat.add_zero]
  rw [Nat.mod_eq_sub_mod h, Nat.div_eq_sub_div hp h]

/-- The loop of `countDown` does not run while the timer stays positive. -/
theorem countDown_stop {period timer c : Nat} (h : c < timer) : countDown period timer c = (timer - c, 0) := by
  simp [countDown, h]

/-- One turn of the loop of `countDown`: the timer, at or below zero by `c - timer`, is raised by the period. -/
theorem countDown_turn {period timer c : Nat} (hp : 0 < period) (h : timer ≤ c) :
    countDown period timer c =
      ((countDown period period (c - timer)).1, (countDown period period (c - timer)).2 + 1) := by
  unfold countDown
  rw [if_neg (by omega)]
  split
  · rename_i hlt
    rw [Nat.mod_eq_of_lt hlt, Nat.div_eq_of_lt hlt]
  · rename_i hge
    rw [Nat.mod_eq_sub_mod (by omega), Nat.div_eq_sub_div hp (by omega)]

theorem countUp_lt {period acc c : Nat} (hp : 0 < period) : (countUp period acc c).1 < period := Nat.mod_lt _ hp

theorem countDown_pos {period timer c : Nat} (hp : 0 < period) : 0 < (countDown period timer c).1 := by
  unfold countDown
  split
  · simp only; omega
  · have := Nat.mod_lt (c - timer) hp
    simp only; omega

/-- Counting up by two amounts one after the other is counting up by their sum (R388). -/
theorem countUp_add (period acc a b : Nat) (hp : 0 < period) :
    countUp period acc (a + b) =
      ((countUp period (countUp period acc a).1 b).1,
       (countUp period acc a).2 + (countUp period (countUp period acc a).1 b).2) := by
  simp only [countUp, Prod.mk.injEq]
  constructor
  · rw [Nat.mod_add_mod, Nat.add_assoc]
  · have h := Nat.div_add_mod (acc + a) period
    rw [show acc + (a + b) = ((acc + a) % period + b) + period * ((acc + a) / period) by omega,
      Nat.add_mul_div_left _ _ hp, Nat.add_comm]

/-- Counting up does not depend on where it stood when the body has run: an invariant of the body is kept. -/
theorem iterate_keeps {α : Type} {P : α → Prop} {f : α → α} (h : ∀ x, P x → P (f x)) (n : Nat) {x : α} (hx : P x) :
    P (f^[n] x) := by
  induction n generalizing x with
  | zero => exact hx
  | succ n ih => exact ih (h x hx)

end Sys2Proof.Machine
end

