-- ==== Sys2Proof/Laws/Decode.lean ====
section
/-! SUPPORT. The decoder by the format of the first byte (R121, R134): one lemma for each format. -/

namespace Sys2Proof

variable {b : Byte}

/-- A first byte that is a whole instruction. -/
theorem decode_op {i : Instr} (h : firstByte b = .op i) (rest : List Byte) : decode (b :: rest) = .ok (i, rest) := by
  rw [decode, decodeBytes, h]
  rw [if_neg (by simp [FirstByte.length])]
  rfl

/-- A first byte with an 8-bit immediate. -/
theorem decode_imm8 {mk : Byte → Instr} (h : firstByte b = .imm8 mk) (n : Byte) (rest : List Byte) :
    decode (b :: n :: rest) = .ok (mk n, rest) := by
  rw [decode, decodeBytes, h]
  rw [if_neg (by simp [FirstByte.length])]
  rfl

/-- A first byte with a 16-bit immediate, low byte first. -/
theorem decode_imm16 {mk : Word → Instr} (h : firstByte b = .imm16 mk) (nn : Word) (rest : List Byte) :
    decode (b :: lo8 nn :: hi8 nn :: rest) = .ok (mk nn, rest) := by
  rw [decode, decodeBytes, h]
  rw [if_neg (by simp [FirstByte.length])]
  show Except.ok (mk (joinBytes (hi8 nn) (lo8 nn)), _) = _
  rw [Machine.joinBytes_hi8_lo8]
  rfl

/-- The prefix and the second byte of an instruction. -/
theorem decode_second (op2 : Byte) (rest : List Byte) : decode (0xCB :: op2 :: rest) = .ok (prefixedInstr op2, rest) := by
  have h : firstByte 0xCB = .second := rfl
  rw [decode, decodeBytes, h]
  rw [if_neg (by simp [FirstByte.length])]
  rfl


end Sys2Proof
end

