-- ==== Sys2Proof/Laws/Engines.lean ====
section
/-! SUPPORT. Everything the three engines can do to the state, said once for each (R570): the bytes of `mem` and the fields that
it writes. What those writes keep, the engine keeps. -/

namespace Sys2Proof.Machine

variable {P : State → Prop} {s : State}

/-- A request is one store to IF (R334). -/
theorem requestInterrupt_eq (s : State) (b : Fin 5) :
    requestInterrupt s b = s.setMem 0xFF0F (s.mem.read 0xFF0F ||| (1#8 <<< b.val)) := rfl

/-- The timer engine writes DIV, TIMA, IF and the accumulators. -/
theorem advanceTimers_keeps (hm : ∀ s a v, a = 0xFF04 ∨ a = 0xFF05 ∨ a = 0xFF0F → P s → P (s.setMem a v))
    (ht : ∀ s t, P s → P { s with timer := t }) (hs : P s) (c : Nat) : P (advanceTimers c s) := by
  have hdiv : P (advanceDiv s c) := iterate_keeps (fun t h => hm t _ _ (.inl rfl) h) _ (ht _ _ hs)
  unfold advanceTimers advanceTima
  dsimp only
  split
  · refine iterate_keeps (fun t h => ?_) _ (ht _ _ hdiv)
    unfold timaTick
    split
    · exact hm _ _ _ (.inr (.inr rfl)) (hm _ _ _ (.inr (.inl rfl)) h)
    · exact hm _ _ _ (.inr (.inl rfl)) h
  · exact hdiv

/-- The PixelUnit writes LY, STAT, IF, its own state and the presented frame. -/
theorem pixelStep_keeps (hm : ∀ s a v, a = 0xFF0F ∨ a = 0xFF41 ∨ a = 0xFF44 → P s → P (s.setMem a v))
    (hp : ∀ s p, P s → P { s with ppu := p }) (ho : ∀ s f, P s → P { s with out := { s.out with presented := f } })
    (hs : P s) (c : Nat) : P (pixelStep c s) := by
  have req {t : State} (b : Fin 5) (h : P t) : P (requestInterrupt t b) := hm _ _ _ (.inl rfl) h
  have enter {t : State} (m : Mode) (h : P t) : P (enterMode m t) := by
    have h := hm _ 0xFF41 (((({ t with ppu := { t.ppu with mode := m } } : State).mem.read 0xFF41).extractLsb' 2 6) ++ m.number)
      (.inr (.inl rfl)) (hp _ { t.ppu with mode := m } h)
    unfold enterMode
    exact iteInduction (motive := P) (fun _ => req _ h) (fun _ => h)
  have compare {t : State} (h : P t) : P (compareLine t) := by
    unfold compareLine
    dsimp only
    split
    · split
      · exact req _ (hm _ _ _ (.inr (.inl rfl)) h)
      · exact hm _ _ _ (.inr (.inl rfl)) h
    · exact hm _ _ _ (.inr (.inl rfl)) h
  have line {t : State} (n : Byte) (h : P t) : P (setLine n t) := hm _ _ _ (.inr (.inr rfl)) h
  have snap {t : State} (n : Nat) (h : P t) : P (snapshot n t) := hp _ _ h
  have clock {t : State} (n : Nat) (h : P t) : P (setClock n t) := hp _ _ h
  have render {t : State} (h : P t) : P (renderAndPresent t) := by
    unfold renderAndPresent
    dsimp only
    generalize renderFrame t.mem t.ppu.scrollCache = f
    exact ho _ (some f) (hp _ { t.ppu with frame := f } h)
  have start : P { s with out := { s.out with presented := none } } := ho _ _ hs
  unfold pixelStep
  dsimp only
  split
  · split
    · exact clock _ start
    · unfold modeEnd
      split
      · exact enter _ (clock _ start)
      · exact enter _ (clock _ start)
      · dsimp only
        split
        · exact render (req _ (enter _ (compare (line _ (clock _ start)))))
        · exact enter _ (snap _ (compare (line _ (clock _ start))))
      · dsimp only
        split
        · exact enter _ (snap _ (compare (line _ (clock _ start))))
        · exact compare (line _ (clock _ start))
  · exact hm _ _ _ (.inr (.inl rfl)) (line _ (clock _ (hp _ _ start)))

/-- Where the configuration gives no pair for the argument, Mix is its default (R536). -/
theorem mixOf_default {cfg : Config} (h : cfg.mixPairs = []) (i : MixInput) : mixOf cfg i = defaultMix cfg.masterGain i := by
  simp [mixOf, h]

/-- With the power off the mixer is silent (R530). -/
@[simp] theorem SoundUnit.mix_off {u : SoundUnit} (h : u.power = false) (cfg : Config) : u.mix cfg = (0, 0) := by
  simp [SoundUnit.mix, h]

/-- With the power on the mixer is the parameter Mix (R535, R536). -/
@[simp] theorem SoundUnit.mix_on {u : SoundUnit} (h : u.power = true) (cfg : Config) : u.mix cfg = mixOf cfg u.mixInput := by
  simp [SoundUnit.mix, h]

/-- The SoundUnit writes itself and the emitted samples. -/
theorem soundStep_keeps (hu : ∀ s u, P s → P { s with snd := u }) (ho : ∀ s l, P s → P { s with out := { s.out with samples := l } })
    (hs : P s) (c : Nat) : P (soundStep c s) := by
  have h := ho _ (s.snd.step s.cfg c).2 (hu s (s.snd.step s.cfg c).1 hs)
  exact h

/-- What no engine writes: the Processor, the joypad, the cartridge port, the configuration and the cycle count. -/
theorem advanceEngines_keeps (s : State) (c : Nat) :
    (advanceEngines c s).cpu = s.cpu ∧ (advanceEngines c s).joypad = s.joypad ∧ (advanceEngines c s).cart = s.cart ∧
      (advanceEngines c s).cfg = s.cfg ∧ (advanceEngines c s).out.cycles = s.out.cycles := by
  let P : State → Prop := fun t =>
    t.cpu = s.cpu ∧ t.joypad = s.joypad ∧ t.cart = s.cart ∧ t.cfg = s.cfg ∧ t.out.cycles = s.out.cycles
  exact soundStep_keeps (P := P) (fun _ _ h => h) (fun _ _ h => h)
    (pixelStep_keeps (P := P) (fun _ _ _ _ h => h) (fun _ _ h => h) (fun _ _ h => h)
      (advanceTimers_keeps (P := P) (fun _ _ _ _ h => h) (fun _ _ h => h) ⟨rfl, rfl, rfl, rfl, rfl⟩ c) c) c

end Sys2Proof.Machine
end

