-- ==== Sys2Proof/Laws/Op.lean ====
section
/-! SUPPORT. The shapes of the instructions: about fifty operations over operand forms, to which every meaning is equal. A proof
about all instructions goes over these and not over the 512 constructors. -/

namespace Sys2Proof.Machine

/-- Where a memory operand of a load or store lies. -/
inductive Addr where
  | hl
  | bc
  | de
  | abs (w : Word)
  | high (n : Byte)
  | highC

/-- The address of a memory operand. -/
def Addr.of (s : State) : Addr → Word
  | .hl => s.hl
  | .bc => s.cpu.pair .bc
  | .de => s.cpu.pair .de
  | .abs w => w
  | .high n => highPage n
  | .highC => highPage s.cpu.c

/-- Where a byte operand comes from. -/
inductive Src where
  | reg (r : Reg)
  | mem
  | imm (n : Byte)

/-- The value of a byte operand. -/
def Src.of (s : State) : Src → Byte
  | .reg r => s.cpu.reg r
  | .mem => memRead s s.hl
  | .imm n => n

/-- The cost of an 8-bit operation on an operand (R135). -/
def Src.cost : Src → Nat
  | .reg _ => 4
  | _ => 8

/-- The shape of an instruction: an operand that is `none` is the byte at HL, a condition that is `none` always holds. -/
inductive Op where
  | nop
  | daa
  | cpl
  | scf
  | ccf
  | halt
  | stop
  | di
  | ei
  | undefined (op : Byte)
  | loadReg (dst src : Reg)
  | loadImm (dst : Reg) (n : Byte)
  | load (dst : Reg) (a : Addr) (cost : Nat)
  | store (a : Addr) (src : Src) (cost : Nat)
  | loadMove (delta : Word)
  | storeMove (delta : Word)
  | loadPair (p : Pair) (nn : Word)
  | storeSp (nn : Word)
  | loadSpHl
  | loadHlSp (e : Byte)
  | push (p : StackPair)
  | pop (p : StackPair)
  | alu (op : AluOp) (src : Src)
  | compare (src : Src)
  | inc (x : Option Reg)
  | dec (x : Option Reg)
  | addHl (p : Pair)
  | movePair (p : Pair) (delta : Word)
  | addSp (e : Byte)
  | rotateA (op : ShiftOp)
  | jump (cc : Option Cond) (nn : Word)
  | jumpHl
  | jumpRel (cc : Option Cond) (e : Byte)
  | call (cc : Option Cond) (nn : Word)
  | ret (cc : Option Cond)
  | reti
  | rst (target : Word)
  | shift (op : ShiftOp) (x : Option Reg)
  | testBit (b : Fin 8) (x : Option Reg)
  | resetBit (b : Fin 8) (x : Option Reg)
  | setBit (b : Fin 8) (x : Option Reg)

/-- What a shape does: the shared bodies of the meanings. -/
def runOp (s : State) : Op → Result
  | .nop => complete s 4
  | .daa => decimalAdjust s
  | .cpl => complete ((s.setReg .a (s.cpu.a ^^^ 0xFF)).setFlags { s.cpu.flags with n := true, h := true }) 4
  | .scf => complete (s.setFlags { s.cpu.flags with n := false, h := false, c := true }) 4
  | .ccf => complete (s.setFlags { s.cpu.flags with n := false, h := false, c := !s.cpu.flags.c }) 4
  | .halt => complete s.halt 4
  | .stop => execStop 0 s
  | .di => complete (s.setIme false) 4
  | .ei => complete (s.setIme true) 4
  | .undefined op => raiseUnimplemented op 1 s
  | .loadReg dst r => loadReg dst r s
  | .loadImm dst n => loadImm dst n s
  | .load dst a cost => loadFrom dst (a.of s) cost s
  | .store a src cost => storeTo (a.of s) (src.of s) cost s
  | .loadMove delta => loadAndMove delta s
  | .storeMove delta => storeAndMove delta s
  | .loadPair p nn => loadPairImm p nn s
  | .storeSp nn => storeSp nn s
  | .loadSpHl => loadSpHl s
  | .loadHlSp e => loadHlSpOffset e s
  | .push p => pushPair p s
  | .pop p => popPair p s
  | .alu op src => aluWith op (src.of s) src.cost s
  | .compare src => compareWith (src.of s) src.cost s
  | .inc (some r) => incrementReg r s
  | .inc none => incrementMem s
  | .dec (some r) => decrementReg r s
  | .dec none => decrementMem s
  | .addHl p => addHl p s
  | .movePair p delta => movePair p delta s
  | .addSp e => addSp e s
  | .rotateA op => rotateA op s
  | .jump none nn => jumpTo nn 16 s
  | .jump (some cc) nn => if cc.holds s.cpu.flags then jumpTo nn 16 s else complete s 12
  | .jumpHl => jumpTo s.hl 4 s
  | .jumpRel none e => jumpTo (s.cpu.pc + sext8 e) 12 s
  | .jumpRel (some cc) e => if cc.holds s.cpu.flags then jumpTo (s.cpu.pc + sext8 e) 12 s else complete s 8
  | .call none nn => callTo nn 24 s
  | .call (some cc) nn => if cc.holds s.cpu.flags then callTo nn 24 s else complete s 12
  | .ret none => returnPopped 16 s
  | .ret (some cc) => if cc.holds s.cpu.flags then returnPopped 20 s else complete s 8
  | .reti => complete (returnFromInterrupt s) 16
  | .rst target => callTo target 16 s
  | .shift op (some r) => shiftReg op r s
  | .shift op none => shiftMem op s
  | .testBit b (some r) => testBitReg b r s
  | .testBit b none => testBitMem b s
  | .resetBit b (some r) => resetBitReg b r s
  | .resetBit b none => resetBitMem b s
  | .setBit b (some r) => setBitReg b r s
  | .setBit b none => setBitMem b s

/-- The shape of every instruction. -/
def shape : Instr → Op
  | .nop => .nop
  | .ldBcNn nn => .loadPair .bc nn
  | .ldMemBcA => .store .bc (.reg .a) 8
  | .incBc => .movePair .bc 1
  | .incB => .inc (some .b)
  | .decB => .dec (some .b)
  | .ldBN n => .loadImm .b n
  | .rlca => .rotateA .rlc
  | .ldMemNnSp nn => .storeSp nn
  | .addHlBc => .addHl .bc
  | .ldAMemBc => .load .a .bc 8
  | .decBc => .movePair .bc (-1)
  | .incC => .inc (some .c)
  | .decC => .dec (some .c)
  | .ldCN n => .loadImm .c n
  | .rrca => .rotateA .rrc
  | .stop _ => .stop
  | .ldDeNn nn => .loadPair .de nn
  | .ldMemDeA => .store .de (.reg .a) 8
  | .incDe => .movePair .de 1
  | .incD => .inc (some .d)
  | .decD => .dec (some .d)
  | .ldDN n => .loadImm .d n
  | .rla => .rotateA .rl
  | .jrE e => .jumpRel none e
  | .addHlDe => .addHl .de
  | .ldAMemDe => .load .a .de 8
  | .decDe => .movePair .de (-1)
  | .incE => .inc (some .e)
  | .decE => .dec (some .e)
  | .ldEN n => .loadImm .e n
  | .rra => .rotateA .rr
  | .jrNzE e => .jumpRel (some .nz) e
  | .ldHlNn nn => .loadPair .hl nn
  | .ldMemHlIncA => .storeMove 1
  | .incHl => .movePair .hl 1
  | .incH => .inc (some .h)
  | .decH => .dec (some .h)
  | .ldHN n => .loadImm .h n
  | .daa => .daa
  | .jrZE e => .jumpRel (some .z) e
  | .addHlHl => .addHl .hl
  | .ldAMemHlInc => .loadMove 1
  | .decHl => .movePair .hl (-1)
  | .incL => .inc (some .l)
  | .decL => .dec (some .l)
  | .ldLN n => .loadImm .l n
  | .cpl => .cpl
  | .jrNcE e => .jumpRel (some .nc) e
  | .ldSpNn nn => .loadPair .sp nn
  | .ldMemHlDecA => .storeMove (-1)
  | .incSp => .movePair .sp 1
  | .incMemHl => .inc none
  | .decMemHl => .dec none
  | .ldMemHlN n => .store .hl (.imm n) 12
  | .scf => .scf
  | .jrCE e => .jumpRel (some .c) e
  | .addHlSp => .addHl .sp
  | .ldAMemHlDec => .loadMove (-1)
  | .decSp => .movePair .sp (-1)
  | .incA => .inc (some .a)
  | .decA => .dec (some .a)
  | .ldAN n => .loadImm .a n
  | .ccf => .ccf
  | .ldBB => .loadReg .b .b
  | .ldBC => .loadReg .b .c
  | .ldBD => .loadReg .b .d
  | .ldBE => .loadReg .b .e
  | .ldBH => .loadReg .b .h
  | .ldBL => .loadReg .b .l
  | .ldBMemHl => .load .b .hl 8
  | .ldBA => .loadReg .b .a
  | .ldCB => .loadReg .c .b
  | .ldCC => .loadReg .c .c
  | .ldCD => .loadReg .c .d
  | .ldCE => .loadReg .c .e
  | .ldCH => .loadReg .c .h
  | .ldCL => .loadReg .c .l
  | .ldCMemHl => .load .c .hl 8
  | .ldCA => .loadReg .c .a
  | .ldDB => .loadReg .d .b
  | .ldDC => .loadReg .d .c
  | .ldDD => .loadReg .d .d
  | .ldDE => .loadReg .d .e
  | .ldDH => .loadReg .d .h
  | .ldDL => .loadReg .d .l
  | .ldDMemHl => .load .d .hl 8
  | .ldDA => .loadReg .d .a
  | .ldEB => .loadReg .e .b
  | .ldEC => .loadReg .e .c
  | .ldED => .loadReg .e .d
  | .ldEE => .loadReg .e .e
  | .ldEH => .loadReg .e .h
  | .ldEL => .loadReg .e .l
  | .ldEMemHl => .load .e .hl 8
  | .ldEA => .loadReg .e .a
  | .ldHB => .loadReg .h .b
  | .ldHC => .loadReg .h .c
  | .ldHD => .loadReg .h .d
  | .ldHE => .loadReg .h .e
  | .ldHH => .loadReg .h .h
  | .ldHL => .loadReg .h .l
  | .ldHMemHl => .load .h .hl 8
  | .ldHA => .loadReg .h .a
  | .ldLB => .loadReg .l .b
  | .ldLC => .loadReg .l .c
  | .ldLD => .loadReg .l .d
  | .ldLE => .loadReg .l .e
  | .ldLH => .loadReg .l .h
  | .ldLL => .loadReg .l .l
  | .ldLMemHl => .load .l .hl 8
  | .ldLA => .loadReg .l .a
  | .ldMemHlB => .store .hl (.reg .b) 8
  | .ldMemHlC => .store .hl (.reg .c) 8
  | .ldMemHlD => .store .hl (.reg .d) 8
  | .ldMemHlE => .store .hl (.reg .e) 8
  | .ldMemHlH => .store .hl (.reg .h) 8
  | .ldMemHlL => .store .hl (.reg .l) 8
  | .halt => .halt
  | .ldMemHlA => .store .hl (.reg .a) 8
  | .ldAB => .loadReg .a .b
  | .ldAC => .loadReg .a .c
  | .ldAD => .loadReg .a .d
  | .ldAE => .loadReg .a .e
  | .ldAH => .loadReg .a .h
  | .ldAL => .loadReg .a .l
  | .ldAMemHl => .load .a .hl 8
  | .ldAA => .loadReg .a .a
  | .addAB => .alu .add (.reg .b)
  | .addAC => .alu .add (.reg .c)
  | .addAD => .alu .add (.reg .d)
  | .addAE => .alu .add (.reg .e)
  | .addAH => .alu .add (.reg .h)
  | .addAL => .alu .add (.reg .l)
  | .addAMemHl => .alu .add .mem
  | .addAA => .alu .add (.reg .a)
  | .adcAB => .alu .adc (.reg .b)
  | .adcAC => .alu .adc (.reg .c)
  | .adcAD => .alu .adc (.reg .d)
  | .adcAE => .alu .adc (.reg .e)
  | .adcAH => .alu .adc (.reg .h)
  | .adcAL => .alu .adc (.reg .l)
  | .adcAMemHl => .alu .adc .mem
  | .adcAA => .alu .adc (.reg .a)
  | .subB => .alu .sub (.reg .b)
  | .subC => .alu .sub (.reg .c)
  | .subD => .alu .sub (.reg .d)
  | .subE => .alu .sub (.reg .e)
  | .subH => .alu .sub (.reg .h)
  | .subL => .alu .sub (.reg .l)
  | .subMemHl => .alu .sub .mem
  | .subA => .alu .sub (.reg .a)
  | .sbcAB => .alu .sbc (.reg .b)
  | .sbcAC => .alu .sbc (.reg .c)
  | .sbcAD => .alu .sbc (.reg .d)
  | .sbcAE => .alu .sbc (.reg .e)
  | .sbcAH => .alu .sbc (.reg .h)
  | .sbcAL => .alu .sbc (.reg .l)
  | .sbcAMemHl => .alu .sbc .mem
  | .sbcAA => .alu .sbc (.reg .a)
  | .andB => .alu .and (.reg .b)
  | .andC => .alu .and (.reg .c)
  | .andD => .alu .and (.reg .d)
  | .andE => .alu .and (.reg .e)
  | .andH => .alu .and (.reg .h)
  | .andL => .alu .and (.reg .l)
  | .andMemHl => .alu .and .mem
  | .andA => .alu .and (.reg .a)
  | .xorB => .alu .xor (.reg .b)
  | .xorC => .alu .xor (.reg .c)
  | .xorD => .alu .xor (.reg .d)
  | .xorE => .alu .xor (.reg .e)
  | .xorH => .alu .xor (.reg .h)
  | .xorL => .alu .xor (.reg .l)
  | .xorMemHl => .alu .xor .mem
  | .xorA => .alu .xor (.reg .a)
  | .orB => .alu .or (.reg .b)
  | .orC => .alu .or (.reg .c)
  | .orD => .alu .or (.reg .d)
  | .orE => .alu .or (.reg .e)
  | .orH => .alu .or (.reg .h)
  | .orL => .alu .or (.reg .l)
  | .orMemHl => .alu .or .mem
  | .orA => .alu .or (.reg .a)
  | .cpB => .compare (.reg .b)
  | .cpC => .compare (.reg .c)
  | .cpD => .compare (.reg .d)
  | .cpE => .compare (.reg .e)
  | .cpH => .compare (.reg .h)
  | .cpL => .compare (.reg .l)
  | .cpMemHl => .compare .mem
  | .cpA => .compare (.reg .a)
  | .retNz => .ret (some .nz)
  | .popBc => .pop .bc
  | .jpNzNn nn => .jump (some .nz) nn
  | .jpNn nn => .jump none nn
  | .callNzNn nn => .call (some .nz) nn
  | .pushBc => .push .bc
  | .addAN n => .alu .add (.imm n)
  | .rst00 => .rst 0x0000
  | .retZ => .ret (some .z)
  | .ret => .ret none
  | .jpZNn nn => .jump (some .z) nn
  | .prefixCb op2 =>
      let y := op2.extractLsb' 3 3
      match (op2.extractLsb' 6 2).toNat, operandOf (op2.extractLsb' 0 3) with
      | 0, x => .shift (shiftOpOf y) x
      | 1, x => .testBit y.toFin x
      | 2, x => .resetBit y.toFin x
      | _, x => .setBit y.toFin x
  | .callZNn nn => .call (some .z) nn
  | .callNn nn => .call none nn
  | .adcAN n => .alu .adc (.imm n)
  | .rst08 => .rst 0x0008
  | .retNc => .ret (some .nc)
  | .popDe => .pop .de
  | .jpNcNn nn => .jump (some .nc) nn
  | .undefinedD3 => .undefined 0xD3
  | .callNcNn nn => .call (some .nc) nn
  | .pushDe => .push .de
  | .subN n => .alu .sub (.imm n)
  | .rst10 => .rst 0x0010
  | .retC => .ret (some .c)
  | .reti => .reti
  | .jpCNn nn => .jump (some .c) nn
  | .undefinedDB => .undefined 0xDB
  | .callCNn nn => .call (some .c) nn
  | .undefinedDD => .undefined 0xDD
  | .sbcAN n => .alu .sbc (.imm n)
  | .rst18 => .rst 0x0018
  | .ldhMemNA n => .store (.high n) (.reg .a) 12
  | .popHl => .pop .hl
  | .ldhMemCA => .store .highC (.reg .a) 8
  | .undefinedE3 => .undefined 0xE3
  | .undefinedE4 => .undefined 0xE4
  | .pushHl => .push .hl
  | .andN n => .alu .and (.imm n)
  | .rst20 => .rst 0x0020
  | .addSpE e => .addSp e
  | .jpHl => .jumpHl
  | .ldMemNnA nn => .store (.abs nn) (.reg .a) 16
  | .undefinedEB => .undefined 0xEB
  | .undefinedEC => .undefined 0xEC
  | .undefinedED => .undefined 0xED
  | .xorN n => .alu .xor (.imm n)
  | .rst28 => .rst 0x0028
  | .ldhAMemN n => .load .a (.high n) 12
  | .popAf => .pop .af
  | .ldhAMemC => .load .a .highC 8
  | .di => .di
  | .undefinedF4 => .undefined 0xF4
  | .pushAf => .push .af
  | .orN n => .alu .or (.imm n)
  | .rst30 => .rst 0x0030
  | .ldHlSpE e => .loadHlSp e
  | .ldSpHl => .loadSpHl
  | .ldAMemNn nn => .load .a (.abs nn) 16
  | .ei => .ei
  | .undefinedFC => .undefined 0xFC
  | .undefinedFD => .undefined 0xFD
  | .cpN n => .compare (.imm n)
  | .rst38 => .rst 0x0038
  | .rlcB => .shift .rlc (some .b)
  | .rlcC => .shift .rlc (some .c)
  | .rlcD => .shift .rlc (some .d)
  | .rlcE => .shift .rlc (some .e)
  | .rlcH => .shift .rlc (some .h)
  | .rlcL => .shift .rlc (some .l)
  | .rlcMemHl => .shift .rlc none
  | .rlcA => .shift .rlc (some .a)
  | .rrcB => .shift .rrc (some .b)
  | .rrcC => .shift .rrc (some .c)
  | .rrcD => .shift .rrc (some .d)
  | .rrcE => .shift .rrc (some .e)
  | .rrcH => .shift .rrc (some .h)
  | .rrcL => .shift .rrc (some .l)
  | .rrcMemHl => .shift .rrc none
  | .rrcA => .shift .rrc (some .a)
  | .rlB => .shift .rl (some .b)
  | .rlC => .shift .rl (some .c)
  | .rlD => .shift .rl (some .d)
  | .rlE => .shift .rl (some .e)
  | .rlH => .shift .rl (some .h)
  | .rlL => .shift .rl (some .l)
  | .rlMemHl => .shift .rl none
  | .rlA => .shift .rl (some .a)
  | .rrB => .shift .rr (some .b)
  | .rrC => .shift .rr (some .c)
  | .rrD => .shift .rr (some .d)
  | .rrE => .shift .rr (some .e)
  | .rrH => .shift .rr (some .h)
  | .rrL => .shift .rr (some .l)
  | .rrMemHl => .shift .rr none
  | .rrA => .shift .rr (some .a)
  | .slaB => .shift .sla (some .b)
  | .slaC => .shift .sla (some .c)
  | .slaD => .shift .sla (some .d)
  | .slaE => .shift .sla (some .e)
  | .slaH => .shift .sla (some .h)
  | .slaL => .shift .sla (some .l)
  | .slaMemHl => .shift .sla none
  | .slaA => .shift .sla (some .a)
  | .sraB => .shift .sra (some .b)
  | .sraC => .shift .sra (some .c)
  | .sraD => .shift .sra (some .d)
  | .sraE => .shift .sra (some .e)
  | .sraH => .shift .sra (some .h)
  | .sraL => .shift .sra (some .l)
  | .sraMemHl => .shift .sra none
  | .sraA => .shift .sra (some .a)
  | .swapB => .shift .swap (some .b)
  | .swapC => .shift .swap (some .c)
  | .swapD => .shift .swap (some .d)
  | .swapE => .shift .swap (some .e)
  | .swapH => .shift .swap (some .h)
  | .swapL => .shift .swap (some .l)
  | .swapMemHl => .shift .swap none
  | .swapA => .shift .swap (some .a)
  | .srlB => .shift .srl (some .b)
  | .srlC => .shift .srl (some .c)
  | .srlD => .shift .srl (some .d)
  | .srlE => .shift .srl (some .e)
  | .srlH => .shift .srl (some .h)
  | .srlL => .shift .srl (some .l)
  | .srlMemHl => .shift .srl none
  | .srlA => .shift .srl (some .a)
  | .bit0B => .testBit 0 (some .b)
  | .bit0C => .testBit 0 (some .c)
  | .bit0D => .testBit 0 (some .d)
  | .bit0E => .testBit 0 (some .e)
  | .bit0H => .testBit 0 (some .h)
  | .bit0L => .testBit 0 (some .l)
  | .bit0MemHl => .testBit 0 none
  | .bit0A => .testBit 0 (some .a)
  | .bit1B => .testBit 1 (some .b)
  | .bit1C => .testBit 1 (some .c)
  | .bit1D => .testBit 1 (some .d)
  | .bit1E => .testBit 1 (some .e)
  | .bit1H => .testBit 1 (some .h)
  | .bit1L => .testBit 1 (some .l)
  | .bit1MemHl => .testBit 1 none
  | .bit1A => .testBit 1 (some .a)
  | .bit2B => .testBit 2 (some .b)
  | .bit2C => .testBit 2 (some .c)
  | .bit2D => .testBit 2 (some .d)
  | .bit2E => .testBit 2 (some .e)
  | .bit2H => .testBit 2 (some .h)
  | .bit2L => .testBit 2 (some .l)
  | .bit2MemHl => .testBit 2 none
  | .bit2A => .testBit 2 (some .a)
  | .bit3B => .testBit 3 (some .b)
  | .bit3C => .testBit 3 (some .c)
  | .bit3D => .testBit 3 (some .d)
  | .bit3E => .testBit 3 (some .e)
  | .bit3H => .testBit 3 (some .h)
  | .bit3L => .testBit 3 (some .l)
  | .bit3MemHl => .testBit 3 none
  | .bit3A => .testBit 3 (some .a)
  | .bit4B => .testBit 4 (some .b)
  | .bit4C => .testBit 4 (some .c)
  | .bit4D => .testBit 4 (some .d)
  | .bit4E => .testBit 4 (some .e)
  | .bit4H => .testBit 4 (some .h)
  | .bit4L => .testBit 4 (some .l)
  | .bit4MemHl => .testBit 4 none
  | .bit4A => .testBit 4 (some .a)
  | .bit5B => .testBit 5 (some .b)
  | .bit5C => .testBit 5 (some .c)
  | .bit5D => .testBit 5 (some .d)
  | .bit5E => .testBit 5 (some .e)
  | .bit5H => .testBit 5 (some .h)
  | .bit5L => .testBit 5 (some .l)
  | .bit5MemHl => .testBit 5 none
  | .bit5A => .testBit 5 (some .a)
  | .bit6B => .testBit 6 (some .b)
  | .bit6C => .testBit 6 (some .c)
  | .bit6D => .testBit 6 (some .d)
  | .bit6E => .testBit 6 (some .e)
  | .bit6H => .testBit 6 (some .h)
  | .bit6L => .testBit 6 (some .l)
  | .bit6MemHl => .testBit 6 none
  | .bit6A => .testBit 6 (some .a)
  | .bit7B => .testBit 7 (some .b)
  | .bit7C => .testBit 7 (some .c)
  | .bit7D => .testBit 7 (some .d)
  | .bit7E => .testBit 7 (some .e)
  | .bit7H => .testBit 7 (some .h)
  | .bit7L => .testBit 7 (some .l)
  | .bit7MemHl => .testBit 7 none
  | .bit7A => .testBit 7 (some .a)
  | .res0B => .resetBit 0 (some .b)
  | .res0C => .resetBit 0 (some .c)
  | .res0D => .resetBit 0 (some .d)
  | .res0E => .resetBit 0 (some .e)
  | .res0H => .resetBit 0 (some .h)
  | .res0L => .resetBit 0 (some .l)
  | .res0MemHl => .resetBit 0 none
  | .res0A => .resetBit 0 (some .a)
  | .res1B => .resetBit 1 (some .b)
  | .res1C => .resetBit 1 (some .c)
  | .res1D => .resetBit 1 (some .d)
  | .res1E => .resetBit 1 (some .e)
  | .res1H => .resetBit 1 (some .h)
  | .res1L => .resetBit 1 (some .l)
  | .res1MemHl => .resetBit 1 none
  | .res1A => .resetBit 1 (some .a)
  | .res2B => .resetBit 2 (some .b)
  | .res2C => .resetBit 2 (some .c)
  | .res2D => .resetBit 2 (some .d)
  | .res2E => .resetBit 2 (some .e)
  | .res2H => .resetBit 2 (some .h)
  | .res2L => .resetBit 2 (some .l)
  | .res2MemHl => .resetBit 2 none
  | .res2A => .resetBit 2 (some .a)
  | .res3B => .resetBit 3 (some .b)
  | .res3C => .resetBit 3 (some .c)
  | .res3D => .resetBit 3 (some .d)
  | .res3E => .resetBit 3 (some .e)
  | .res3H => .resetBit 3 (some .h)
  | .res3L => .resetBit 3 (some .l)
  | .res3MemHl => .resetBit 3 none
  | .res3A => .resetBit 3 (some .a)
  | .res4B => .resetBit 4 (some .b)
  | .res4C => .resetBit 4 (some .c)
  | .res4D => .resetBit 4 (some .d)
  | .res4E => .resetBit 4 (some .e)
  | .res4H => .resetBit 4 (some .h)
  | .res4L => .resetBit 4 (some .l)
  | .res4MemHl => .resetBit 4 none
  | .res4A => .resetBit 4 (some .a)
  | .res5B => .resetBit 5 (some .b)
  | .res5C => .resetBit 5 (some .c)
  | .res5D => .resetBit 5 (some .d)
  | .res5E => .resetBit 5 (some .e)
  | .res5H => .resetBit 5 (some .h)
  | .res5L => .resetBit 5 (some .l)
  | .res5MemHl => .resetBit 5 none
  | .res5A => .resetBit 5 (some .a)
  | .res6B => .resetBit 6 (some .b)
  | .res6C => .resetBit 6 (some .c)
  | .res6D => .resetBit 6 (some .d)
  | .res6E => .resetBit 6 (some .e)
  | .res6H => .resetBit 6 (some .h)
  | .res6L => .resetBit 6 (some .l)
  | .res6MemHl => .resetBit 6 none
  | .res6A => .resetBit 6 (some .a)
  | .res7B => .resetBit 7 (some .b)
  | .res7C => .resetBit 7 (some .c)
  | .res7D => .resetBit 7 (some .d)
  | .res7E => .resetBit 7 (some .e)
  | .res7H => .resetBit 7 (some .h)
  | .res7L => .resetBit 7 (some .l)
  | .res7MemHl => .resetBit 7 none
  | .res7A => .resetBit 7 (some .a)
  | .set0B => .setBit 0 (some .b)
  | .set0C => .setBit 0 (some .c)
  | .set0D => .setBit 0 (some .d)
  | .set0E => .setBit 0 (some .e)
  | .set0H => .setBit 0 (some .h)
  | .set0L => .setBit 0 (some .l)
  | .set0MemHl => .setBit 0 none
  | .set0A => .setBit 0 (some .a)
  | .set1B => .setBit 1 (some .b)
  | .set1C => .setBit 1 (some .c)
  | .set1D => .setBit 1 (some .d)
  | .set1E => .setBit 1 (some .e)
  | .set1H => .setBit 1 (some .h)
  | .set1L => .setBit 1 (some .l)
  | .set1MemHl => .setBit 1 none
  | .set1A => .setBit 1 (some .a)
  | .set2B => .setBit 2 (some .b)
  | .set2C => .setBit 2 (some .c)
  | .set2D => .setBit 2 (some .d)
  | .set2E => .setBit 2 (some .e)
  | .set2H => .setBit 2 (some .h)
  | .set2L => .setBit 2 (some .l)
  | .set2MemHl => .setBit 2 none
  | .set2A => .setBit 2 (some .a)
  | .set3B => .setBit 3 (some .b)
  | .set3C => .setBit 3 (some .c)
  | .set3D => .setBit 3 (some .d)
  | .set3E => .setBit 3 (some .e)
  | .set3H => .setBit 3 (some .h)
  | .set3L => .setBit 3 (some .l)
  | .set3MemHl => .setBit 3 none
  | .set3A => .setBit 3 (some .a)
  | .set4B => .setBit 4 (some .b)
  | .set4C => .setBit 4 (some .c)
  | .set4D => .setBit 4 (some .d)
  | .set4E => .setBit 4 (some .e)
  | .set4H => .setBit 4 (some .h)
  | .set4L => .setBit 4 (some .l)
  | .set4MemHl => .setBit 4 none
  | .set4A => .setBit 4 (some .a)
  | .set5B => .setBit 5 (some .b)
  | .set5C => .setBit 5 (some .c)
  | .set5D => .setBit 5 (some .d)
  | .set5E => .setBit 5 (some .e)
  | .set5H => .setBit 5 (some .h)
  | .set5L => .setBit 5 (some .l)
  | .set5MemHl => .setBit 5 none
  | .set5A => .setBit 5 (some .a)
  | .set6B => .setBit 6 (some .b)
  | .set6C => .setBit 6 (some .c)
  | .set6D => .setBit 6 (some .d)
  | .set6E => .setBit 6 (some .e)
  | .set6H => .setBit 6 (some .h)
  | .set6L => .setBit 6 (some .l)
  | .set6MemHl => .setBit 6 none
  | .set6A => .setBit 6 (some .a)
  | .set7B => .setBit 7 (some .b)
  | .set7C => .setBit 7 (some .c)
  | .set7D => .setBit 7 (some .d)
  | .set7E => .setBit 7 (some .e)
  | .set7H => .setBit 7 (some .h)
  | .set7L => .setBit 7 (some .l)
  | .set7MemHl => .setBit 7 none
  | .set7A => .setBit 7 (some .a)

/-- The prefix row does what the shape of its fields does. -/
theorem execPrefixCb_eq (op2 : Byte) (s : State) : execPrefixCb op2 s = runOp s (shape (.prefixCb op2)) := by
  unfold execPrefixCb shape
  dsimp only
  generalize (op2.extractLsb' 6 2).toNat = x
  cases operandOf (op2.extractLsb' 0 3) <;> rcases x with _ | _ | _ | x <;> rfl

/-- Every meaning is the operation of its shape. -/
theorem exec_eq_run (i : Instr) (s : State) : exec i s = runOp s (shape i) := by
  cases i
  case prefixCb op2 => exact execPrefixCb_eq op2 s
  all_goals rfl

end Sys2Proof.Machine
end

