-- ==== Sys2Proof/Laws/Exec.lean ====
section
/-! SUPPORT. Everything an instruction can do to the state outside the Processor, said once: what byte writes and the cycle count
keep, every instruction keeps. -/

namespace Sys2Proof.Machine

/-- A property of the state that neither the Processor nor the cycle count nor a byte write can break. -/
structure Stable (P : State → Prop) : Prop where
  cpu : ∀ s p, P s → P { s with cpu := p }
  write : ∀ s a v, P s → P (memWrite s a v)
  cycles : ∀ s n, P s → P (s.withCycles n)

/-- If a result is a next state, it has the property. -/
def Keeps (P : State → Prop) (r : Result) : Prop := ∀ t, r = .next t → P t

variable {P : State → Prop} {s : State}

theorem Keeps.complete {t : State} {n : Nat} (h : P (t.withCycles n)) : Keeps P (complete t n) := by
  rintro u hu
  cases hu
  exact h

theorem Keeps.ite {c : Prop} [Decidable c] {a b : Result} (ha : Keeps P a) (hb : Keeps P b) : Keeps P (if c then a else b) := by
  split <;> assumption

/-- What no byte write can break, no shape breaks. -/
theorem runOp_keeps (hP : Stable P) (hs : P s) (o : Op) : Keeps P (runOp s o) := by
  have done {t : State} {n : Nat} (ht : P t) : Keeps P (Machine.complete t n) := .complete (hP.cycles _ _ ht)
  have regs (p : Processor) (n : Nat) : Keeps P (Machine.complete { s with cpu := p } n) := done (hP.cpu _ _ hs)
  have stores (a : Word) (v : Byte) (n : Nat) : Keeps P (Machine.complete (memWrite s a v) n) := done (hP.write _ _ _ hs)
  have storesRegs (a : Word) (v : Byte) (p : Processor) (n : Nat) :
      Keeps P (Machine.complete { memWrite s a v with cpu := p } n) := done (hP.cpu _ _ (hP.write _ _ _ hs))
  have pushes (w : Word) (p : Processor) (n : Nat) : Keeps P (Machine.complete { push16 s w with cpu := p } n) :=
    done (hP.cpu _ _ (push16_keeps hP.cpu hP.write hs w))
  cases o with
  | nop => exact done hs
  | undefined op => intro t h; simp [runOp, raiseUnimplemented] at h
  | stop =>
    show Keeps P (execStop 0 s)
    unfold execStop
    split
    · intro t h; simp [raiseUnimplemented] at h
    · exact regs _ _
  | store a src cost => exact stores _ _ _
  | storeMove delta => exact storesRegs _ _ _ _
  | storeSp nn => exact done (hP.write _ _ _ (hP.write _ _ _ hs))
  | push p => exact done (push16_keeps hP.cpu hP.write hs _)
  | inc x => cases x; exacts [storesRegs _ _ _ _, regs _ _]
  | dec x => cases x; exacts [storesRegs _ _ _ _, regs _ _]
  | jump cc nn => cases cc; exacts [regs _ _, .ite (regs _ _) (done hs)]
  | jumpRel cc e => cases cc; exacts [regs _ _, .ite (regs _ _) (done hs)]
  | call cc nn => cases cc; exacts [pushes _ _ _, .ite (pushes _ _ _) (done hs)]
  | ret cc => cases cc; exacts [regs _ _, .ite (regs _ _) (done hs)]
  | rst target => exact pushes _ _ _
  | shift op x => cases x; exacts [storesRegs _ _ _ _, regs _ _]
  | testBit b x => cases x; exacts [regs _ _, regs _ _]
  | resetBit b x => cases x; exacts [stores _ _ _, regs _ _]
  | setBit b x => cases x; exacts [stores _ _ _, regs _ _]
  | _ => exact regs _ _

/-- What no byte write can break, no instruction breaks. -/
theorem exec_keeps (hP : Stable P) (hs : P s) (i : Instr) : Keeps P (exec i s) := by
  rw [exec_eq_run]
  exact runOp_keeps hP hs _

end Sys2Proof.Machine
end

