-- ==== Sys2Proof/Laws/Processor.lean ====
section
/-! SUPPORT. Everything `executeStep` and a step can do (R340, R570), said once: the three cases, and what a step keeps. -/

namespace Sys2Proof.Machine

variable {P : State → Prop} {s : State}

/-- A next state does not depend on how a fault is reported. -/
@[simp] theorem keepHalted_next (h : Bool) (r : Result) (t : State) : keepHalted h r = .next t ↔ r = .next t := by
  unfold keepHalted
  split <;> simp

/-- The flag that a fault carries is the one given (R330). -/
@[simp] theorem keepHalted_fault (h : Bool) (op : Byte) (addr : Word) (t : State) :
    keepHalted h (.fault (.unimplementedOpcode op addr t)) =
      .fault (.unimplementedOpcode op addr { t with cpu := { t.cpu with halted := h } }) := rfl

/-- A refusal comes only from a refusal. -/
@[simp] theorem keepHalted_refused (h : Bool) (r : Result) (e : Refusal) : keepHalted h r = .refused e ↔ r = .refused e := by
  unfold keepHalted
  split <;> simp

/-- The three cases of `executeStep` (R340): the dispatch, the idle step, one instruction. -/
theorem executeStep_cases (s : State) :
    (pending s ≠ 0 ∧ s.cpu.ime = true ∧ executeStep s = .next (takeInterrupt (lowestSource (pending s)) (wake s))) ∨
    (pending s = 0 ∧ s.cpu.halted = true ∧ executeStep s = .next ((wake s).withCycles s.cfg.haltIdleCycles)) ∨
    ((pending s = 0 ∨ s.cpu.ime = false) ∧ (s.cpu.halted = false ∨ pending s ≠ 0) ∧
      executeStep s = keepHalted s.cpu.halted (executeFetched (wake s))) := by
  unfold executeStep
  by_cases h : pending s ≠ 0 ∧ s.cpu.ime = true
  · exact .inl ⟨h.1, h.2, if_pos h⟩
  · rw [if_neg h]
    by_cases hw : (wake s).cpu.halted = true
    · rw [if_pos hw]
      have hw : s.cpu.halted = true ∧ pending s = 0 := by simpa [wake] using hw
      exact .inr (.inl ⟨hw.2, hw.1, rfl⟩)
    · rw [if_neg hw]
      have hw : s.cpu.halted = true → pending s ≠ 0 := by simpa [wake] using hw
      refine .inr (.inr ⟨?_, ?_, rfl⟩)
      · by_cases hp : pending s = 0
        · exact .inl hp
        · exact .inr (by simpa using fun hi => h ⟨hp, hi⟩)
      · cases hh : s.cpu.halted
        · exact .inl rfl
        · exact .inr (hw hh)

/-- Taking an interrupt writes IF, pushes, and changes the Processor (R341). -/
theorem takeInterrupt_keeps (hP : Stable P) (hif : ∀ s v, P s → P (s.setMem 0xFF0F v)) (hs : P s) (b : Fin 5) :
    P (takeInterrupt b s) :=
  hP.cycles _ _ (hP.cpu _ _ (push16_keeps hP.cpu hP.write (hif _ _ (hP.cpu _ _ hs)) _))

/-- What neither a byte write nor the Processor nor a store to IF can break, `executeStep` keeps. -/
theorem executeStep_keeps (hP : Stable P) (hif : ∀ s v, P s → P (s.setMem 0xFF0F v)) (hs : P s) : Keeps P (executeStep s) := by
  have hw : P (wake s) := hP.cpu _ _ hs
  obtain ⟨-, -, h⟩ | ⟨-, -, h⟩ | ⟨-, -, h⟩ := executeStep_cases s <;> rw [h]
  · intro t ht
    cases ht
    exact takeInterrupt_keeps hP hif hw _
  · intro t ht
    cases ht
    exact hP.cycles _ _ hw
  · intro t ht
    exact exec_keeps hP (hP.cpu _ _ hw) _ t ((keepHalted_next ..).1 ht)

/-- A step that answers a next state is `executeStep` and then the engines, by the same cycles (R570). -/
theorem step_next {t : State} (h : step s = .next t) :
    ∃ u, executeStep s = .next u ∧ t = advanceEngines u.out.cycles u := by
  unfold step at h
  split at h
  · rename_i u hu
    cases h
    exact ⟨u, hu, rfl⟩
  · cases h
  · cases h

end Sys2Proof.Machine
end

