-- ==== Sys2Proof/Tests/Slice0.lean ====
section
/-! SUPPORT. The model's own tests: decoding of words written out from the encodings, the check of WellFormed, the vectors of
spec/95_test_vectors.md on single steps (a vector's id stands in the docstring), and for every obligation with hypotheses a
witness that meets them. -/

namespace Sys2Proof.Tests

open Sys2Proof.Machine Sys2Proof.Claims

/-- A Processor with every register 0 and PC in working RAM. -/
def cpu0 : Processor where
  a := 0
  f := 0
  b := 0
  c := 0
  d := 0
  e := 0
  h := 0
  l := 0
  sp := 0xD000
  pc := 0xC100
  ime := false
  halted := false

/-- A machine after reset with this Processor and these bytes of the raw byte array. -/
def machine (p : Processor) (cells : List (Nat × Byte)) : State :=
  { State.reset with cpu := p, mem := cells.foldl (fun m c => m.write c.1 c.2) [] }

/-- The instruction completes and the state after it passes the check. -/
def runs (i : Instr) (s : State) (check : State → Bool) : Bool :=
  match exec i s with
  | .next t => check t
  | _ => false

/-- The step completes and the state after it passes the check. -/
def steps (s : State) (check : State → Bool) : Bool :=
  match step s with
  | .next t => check t
  | _ => false

/-- The bytes are the whole encoding of the instruction. -/
def reads (bytes : List Byte) (i : Instr) : Bool :=
  match decode bytes with
  | .ok (j, []) => j == i
  | _ => false

/-- A machine with the vertical-blank interrupt enabled and requested. -/
def irq (ime halted : Bool) : State := machine { cpu0 with ime := ime, halted := halted } [(0xFFFF, 0x01), (0xFF0F, 0x01)]

/-- A machine at a byte with no instruction. -/
def atUndefined : State := machine cpu0 [(0xC100, 0xDD)]

/-- A flat machine with the memory of some controller kind and 8 KiB of external RAM. -/
def banked (ctl : BankController) : State := { machine cpu0 [] with cart := { Cartridge.blank with ctl := ctl, xramSize := 8192 } }

/-- The PixelUnit of the reset state is between calls. -/
theorem reset_pixelInv : pixelInv State.reset :=
  ⟨by decide, by decide, by decide, fun n _ => by simp [State.reset, State.resetWith, PixelUnit.reset], by decide⟩

/-- Format OP and OP_N of R150 to R168, bit by bit. -/
theorem test_decode_load8 :
    reads [0b01_111_000] (.ldAB) = true ∧
    reads [0b00_101_110, 0x12] (.ldLN 0x12) = true ∧
    reads [0b01_110_101] (.ldMemHlL) = true ∧
    reads [0b11100010] (.ldhMemCA) = true ∧
    reads [0b00101010] (.ldAMemHlInc) = true := by decide

/-- R181 to R186; the low byte of an immediate comes first. -/
theorem test_decode_load16 :
    reads [0b00_11_0001, 0xF0, 0xDF] (.ldSpNn 0xDFF0) = true ∧
    reads [0b11_11_0101] (.pushAf) = true ∧
    reads [0b11_00_0001] (.popBc) = true ∧
    reads [0x08, 0x34, 0x12] (.ldMemNnSp 0x1234) = true := by decide

/-- R201 to R228. -/
theorem test_decode_alu8 :
    reads [0b10_001_011] (.adcAE) = true ∧
    reads [0b11_111_110, 0x90] (.cpN 0x90) = true ∧
    reads [0b00_110_101] (.decMemHl) = true ∧
    reads [0b10_011_110] (.sbcAMemHl) = true := by decide

/-- R240 to R243. -/
theorem test_decode_alu16 :
    reads [0b00_10_1001] (.addHlHl) = true ∧
    reads [0b00_11_1011] (.decSp) = true ∧
    reads [0xE8, 0x80] (.addSpE 0x80) = true := by decide

/-- R250 to R258. -/
theorem test_decode_rotate_misc :
    reads [0b00_001_111] (.rrca) = true ∧
    reads [0b00_100_111] (.daa) = true ∧
    reads [0b00_111_111] (.ccf) = true := by decide

/-- R271 to R281. -/
theorem test_decode_control :
    reads [0b001_10_000, 0x05] (.jrNcE 0x05) = true ∧
    reads [0b110_01_100, 0x00, 0x20] (.callZNn 0x2000) = true ∧
    reads [0b11_101_111] (.rst28) = true ∧
    reads [0b110_11_000] (.retC) = true := by decide

/-- R290 to R295. -/
theorem test_decode_system :
    reads [0b01_110_110] (.halt) = true ∧
    reads [0x10, 0x55] (.stop 0x55) = true ∧
    reads [0xF3] (.di) = true ∧
    reads [0xED] (.undefinedED) = true := by decide

/-- R301 to R322, the prefix and the second byte. -/
theorem test_decode_prefixed :
    reads [0xCB, 0b00_110_111] (.swapA) = true ∧
    reads [0xCB, 0b01_100_101] (.bit4L) = true ∧
    reads [0xCB, 0b10_011_110] (.res3MemHl) = true ∧
    reads [0xCB, 0b11_011_111] (.set3A) = true := by decide

/-- An instruction whose bytes end too early is refused by name; the empty list too. -/
theorem test_decode_truncated :
    (match decode [0xC3, 0x50] with
    | .error e => e == .truncated 0xC3
    | _ => false) = true ∧
    (match decode [] with
    | .error e => e == .empty
    | _ => false) = true := by decide

/-- The check refuses the prefix row of the opcode table, whatever its second byte, and nothing else (R133, R294). -/
theorem test_wellFormed_prefix_row :
    (Instr.prefixCb 0x37).wellFormed = false ∧ Instr.swapA.wellFormed = true ∧
      (Instr.ldAN 0xFF).wellFormed = true := by decide

/-- A word is numbered as the opcode table numbers it (R139), and the very next step runs it from reset. -/
theorem test_table_words :
    decodeTableWord 16 0xCB37 = some .swapA ∧ decodeTableWord 8 0x3C = some .incA ∧
    steps (State.reset.withFetchWord 8 0x3C) (fun u => u.cpu.a == 0x02 && u.out.cycles == 4) = true := by decide

/-- L8-02. -/
theorem test_ldHL :
    runs (.ldHL) (machine { cpu0 with h := 0x12, l := 0xAB } [])
    (fun u => u.cpu.h == 0xAB && u.cpu.l == 0xAB && u.out.cycles == 4) = true := by decide

/-- L8-03: the destination is part of the address. -/
theorem test_ldHMemHl :
    runs (.ldHMemHl) (machine { cpu0 with h := 0xC0, l := 0x10 } [(0xC010, 0x9A)])
    (fun u => u.cpu.h == 0x9A && u.cpu.l == 0x10 && u.out.cycles == 8) = true := by decide

/-- L8-04: the source is part of the address. -/
theorem test_ldMemHlL :
    runs (.ldMemHlL) (machine { cpu0 with h := 0xC0, l := 0xFE } [])
    (fun u => u.cpu.h == 0xC0 && u.cpu.l == 0xFE && memRead u 0xC0FE == 0xFE) = true := by decide

/-- L8-05: a store to ROM changes no byte. -/
theorem test_ldMemHlA_rom :
    runs (.ldMemHlA) (machine { cpu0 with h := 0x20, l := 0x00, a := 0x55 } [])
    (fun u => memRead u 0x2000 == 0x00 && u.out.cycles == 8) = true := by decide

/-- L8-07. -/
theorem test_ldMemHlB_echo :
    runs (.ldMemHlB) (machine { cpu0 with h := 0xFD, l := 0xFF, b := 0x66 } [])
    (fun u => memRead u 0xDDFF == 0x66 && memRead u 0xFDFF == 0x66) = true := by decide

/-- L8-08. -/
theorem test_ldAMemNn_unusable :
    runs (.ldAMemNn 0xFEA0) (machine { cpu0 with a := 0x00 } [(0xFEA0, 0x12)])
    (fun u => u.cpu.a == 0xFF && u.out.cycles == 16) = true := by decide

/-- L8-10. -/
theorem test_ldMemHlIncA_wrap :
    runs (.ldMemHlIncA) (machine { cpu0 with h := 0xFF, l := 0xFF, a := 0x1F } [])
    (fun u => u.cpu.h == 0x00 && u.cpu.l == 0x00 && memRead u 0xFFFF == 0x1F) = true := by decide

/-- L8-13, with the zero byte of the blank cartridge. -/
theorem test_ldAMemHlDec_wrap :
    runs (.ldAMemHlDec) (machine { cpu0 with h := 0x00, l := 0x00, a := 0x77 } [])
    (fun u => u.cpu.a == 0x00 && u.cpu.h == 0xFF && u.cpu.l == 0xFF) = true := by decide

/-- L8-17. -/
theorem test_ldhMemNA_div :
    runs (.ldhMemNA 0x04) (machine { cpu0 with a := 0x99 } [(0xFF04, 0x42)])
    (fun u => memRead u 0xFF04 == 0x00 && u.out.cycles == 12) = true := by decide

/-- L8-19. -/
theorem test_ldhMemNA_stat :
    runs (.ldhMemNA 0x41) (machine { cpu0 with a := 0xFF } [(0xFF41, 0x02)])
    (fun u => memRead u 0xFF41 == 0xFA) = true := by decide

/-- L8-20. -/
theorem test_ldhMemCA_ie :
    runs (.ldhMemCA) (machine { cpu0 with a := 0xFF, c := 0xFF } [])
    (fun u => memRead u 0xFFFF == 0xFF && u.out.cycles == 8) = true := by decide

/-- L16-03. -/
theorem test_pushAf :
    runs (.pushAf) (machine { cpu0 with a := 0x12, f := 0xB0, sp := 0xD000 } [])
    (fun u => u.cpu.sp == 0xCFFE && memRead u 0xCFFF == 0x12 && memRead u 0xCFFE == 0xB0 &&
      u.out.cycles == 16) = true := by decide

/-- L16-05: the low nibble of F stays 0. -/
theorem test_popAf_mask :
    runs (.popAf) (machine { cpu0 with sp := 0xC000, f := 0xF0 } [(0xC000, 0x0F), (0xC001, 0x00)])
    (fun u => u.cpu.a == 0x00 && u.cpu.f == 0x00 && u.cpu.sp == 0xC002) = true := by decide

/-- L16-06. -/
theorem test_pushDe_wrap :
    runs (.pushDe) (machine { cpu0 with d := 0xAB, e := 0xCD, sp := 0x0001 } [])
    (fun u => u.cpu.sp == 0xFFFF && memRead u 0x0000 == 0x00 && memRead u 0xFFFF == 0xCD) = true := by decide

/-- L16-09. -/
theorem test_ldMemNnSp_wrap :
    runs (.ldMemNnSp 0xFFFF) (machine { cpu0 with sp := 0x1234 } [])
    (fun u => memRead u 0xFFFF == 0x34 && memRead u 0x0000 == 0x00 && u.out.cycles == 20) = true := by decide

/-- L16-13: the carries are those of the raw byte. -/
theorem test_ldHlSpE_carries :
    runs (.ldHlSpE 0x80) (machine { cpu0 with sp := 0x0080 } [])
    (fun u => u.cpu.h == 0x00 && u.cpu.l == 0x00 && u.cpu.f == 0x10 && u.out.cycles == 12) = true := by decide

/-- A8-04. -/
theorem test_addAC :
    runs (.addAC) (machine { cpu0 with a := 0xFF, c := 0x01, f := 0x40 } [])
    (fun u => u.cpu.a == 0x00 && u.cpu.f == 0xB0 && u.out.cycles == 4) = true := by decide

/-- A8-08. -/
theorem test_adcAA :
    runs (.adcAA) (machine { cpu0 with a := 0x88, f := 0x10 } [])
    (fun u => u.cpu.a == 0x11 && u.cpu.f == 0x30) = true := by decide

/-- A8-11. -/
theorem test_subB_borrow :
    runs (.subB) (machine { cpu0 with a := 0x00, b := 0x01 } [])
    (fun u => u.cpu.a == 0xFF && u.cpu.f == 0x70) = true := by decide

/-- A8-15. -/
theorem test_sbcAB_carry :
    runs (.sbcAB) (machine { cpu0 with a := 0x00, b := 0xFF, f := 0x10 } [])
    (fun u => u.cpu.a == 0x00 && u.cpu.f == 0xF0) = true := by decide

/-- A8-18. -/
theorem test_andA :
    runs (.andA) (machine { cpu0 with a := 0x00, f := 0x50 } [])
    (fun u => u.cpu.a == 0x00 && u.cpu.f == 0xA0) = true := by decide

/-- A8-23. -/
theorem test_cpN :
    runs (.cpN 0x90) (machine { cpu0 with a := 0x8F } [])
    (fun u => u.cpu.a == 0x8F && u.cpu.f == 0x50 && u.out.cycles == 8) = true := by decide

/-- A8-26. -/
theorem test_incL :
    runs (.incL) (machine { cpu0 with h := 0x12, l := 0xFF } [])
    (fun u => u.cpu.h == 0x12 && u.cpu.l == 0x00 && u.cpu.f == 0xA0) = true := by decide

/-- A8-27. -/
theorem test_decA_keeps_carry :
    runs (.decA) (machine { cpu0 with a := 0x00, f := 0x10 } [])
    (fun u => u.cpu.a == 0xFF && u.cpu.f == 0x70) = true := by decide

/-- A8-30. -/
theorem test_incMemHl :
    runs (.incMemHl) (machine { cpu0 with h := 0xC0, l := 0x00, f := 0x10 } [(0xC000, 0xFF)])
    (fun u => u.cpu.f == 0xB0 && memRead u 0xC000 == 0x00 && u.out.cycles == 12) = true := by decide

/-- A16-04. -/
theorem test_addHlSp_keeps_z :
    runs (.addHlSp) (machine { cpu0 with h := 0x00, l := 0xFF, sp := 0x0001, f := 0xF0 } [])
    (fun u => u.cpu.h == 0x01 && u.cpu.l == 0x00 && u.cpu.f == 0x80 && u.out.cycles == 8) = true := by decide

/-- A16-06. -/
theorem test_incHl_no_flags :
    runs (.incHl) (machine { cpu0 with h := 0xFF, l := 0xFF, f := 0x00 } [])
    (fun u => u.cpu.h == 0x00 && u.cpu.l == 0x00 && u.cpu.f == 0x00) = true := by decide

/-- A16-10. -/
theorem test_addSpE_negative :
    runs (.addSpE 0xFF) (machine { cpu0 with sp := 0x0000, f := 0xF0 } [])
    (fun u => u.cpu.sp == 0xFFFF && u.cpu.f == 0x00 && u.out.cycles == 16) = true := by decide

/-- RM-01. -/
theorem test_rlca_clears_z :
    runs (.rlca) (machine { cpu0 with a := 0x00, f := 0xF0 } [])
    (fun u => u.cpu.a == 0x00 && u.cpu.f == 0x00) = true := by decide

/-- RM-13. -/
theorem test_daa_after_sub :
    runs (.daa) (machine { cpu0 with a := 0xFF, f := 0x70 } [])
    (fun u => u.cpu.a == 0x99 && u.cpu.f == 0x50) = true := by decide

/-- RM-08. -/
theorem test_daa_after_add :
    runs (.daa) (machine { cpu0 with a := 0x9A, f := 0x00 } [])
    (fun u => u.cpu.a == 0x00 && u.cpu.f == 0x90) = true := by decide

/-- RM-18. -/
theorem test_cpl :
    runs (.cpl) (machine { cpu0 with a := 0xFF, f := 0x90 } [])
    (fun u => u.cpu.a == 0x00 && u.cpu.f == 0xF0) = true := by decide

/-- RM-20. -/
theorem test_ccf :
    runs (.ccf) (machine { cpu0 with f := 0x70 } [])
    (fun u => u.cpu.f == 0x00) = true := by decide

/-- CT-01, PC already past the two bytes. -/
theorem test_jrE_self :
    runs (.jrE 0xFE) (machine { cpu0 with pc := 0x0152 } [])
    (fun u => u.cpu.pc == 0x0150 && u.out.cycles == 12) = true := by decide

/-- CT-07. -/
theorem test_jpNzNn_not_taken :
    runs (.jpNzNn 0x1234) (machine { cpu0 with f := 0x80, pc := 0x0103 } [])
    (fun u => u.cpu.pc == 0x0103 && u.out.cycles == 12) = true := by decide

/-- CT-09. -/
theorem test_callZNn_taken :
    runs (.callZNn 0x2000) (machine { cpu0 with f := 0x80, sp := 0xD000, pc := 0x0103 } [])
    (fun u => u.cpu.pc == 0x2000 && u.cpu.sp == 0xCFFE && memRead u 0xCFFF == 0x01 && memRead u 0xCFFE == 0x03 &&
      u.out.cycles == 24) = true := by decide

/-- CT-12. -/
theorem test_retC_taken :
    runs (.retC) (machine { cpu0 with f := 0x10, sp := 0xC000 } [(0xC000, 0x00), (0xC001, 0x40)])
    (fun u => u.cpu.pc == 0x4000 && u.cpu.sp == 0xC002 && u.out.cycles == 20) = true := by decide

/-- CT-14. -/
theorem test_reti :
    runs (.reti) (machine { cpu0 with sp := 0xC000 } [(0xC000, 0x00), (0xC001, 0x02)])
    (fun u => u.cpu.pc == 0x0200 && u.cpu.sp == 0xC002 && u.cpu.ime == true && u.out.cycles == 16) = true := by decide

/-- CT-16. -/
theorem test_rst38 :
    runs (.rst38) (machine { cpu0 with pc := 0xFEA1, sp := 0xD000 } [])
    (fun u => u.cpu.pc == 0x0038 && u.cpu.sp == 0xCFFE && memRead u 0xCFFF == 0xFE && memRead u 0xCFFE == 0xA1 &&
      u.out.cycles == 16) = true := by decide

/-- SY-01. -/
theorem test_halt :
    runs (.halt) (machine { cpu0 with ime := true } [])
    (fun u => u.cpu.halted == true && u.cpu.ime == true && u.out.cycles == 4) = true := by decide

/-- CB-01. -/
theorem test_rlB :
    runs (.rlB) (machine { cpu0 with b := 0x80, f := 0x10 } [])
    (fun u => u.cpu.b == 0x01 && u.cpu.f == 0x10 && u.out.cycles == 8) = true := by decide

/-- CB-04. -/
theorem test_rlcA_sets_z :
    runs (.rlcA) (machine { cpu0 with a := 0x00, f := 0xF0 } [])
    (fun u => u.cpu.a == 0x00 && u.cpu.f == 0x80) = true := by decide

/-- CB-07. -/
theorem test_sraB :
    runs (.sraB) (machine { cpu0 with b := 0x80 } [])
    (fun u => u.cpu.b == 0xC0 && u.cpu.f == 0x00) = true := by decide

/-- CB-10. -/
theorem test_swapB :
    runs (.swapB) (machine { cpu0 with b := 0x00, f := 0xF0 } [])
    (fun u => u.cpu.b == 0x00 && u.cpu.f == 0x80) = true := by decide

/-- CB-21. -/
theorem test_srlMemHl :
    runs (.srlMemHl) (machine { cpu0 with h := 0xC0, l := 0x00 } [(0xC000, 0x01)])
    (fun u => u.cpu.f == 0x90 && memRead u 0xC000 == 0x00 && u.out.cycles == 16) = true := by decide

/-- CB-13. -/
theorem test_bit7H :
    runs (.bit7H) (machine { cpu0 with h := 0x7F, l := 0xFF, f := 0x00 } [])
    (fun u => u.cpu.f == 0xA0 && u.out.cycles == 8) = true := by decide

/-- CB-14. -/
theorem test_bit7MemHl :
    runs (.bit7MemHl) (machine { cpu0 with h := 0xFF, l := 0x44, f := 0x10 } [(0xFF44, 0x90)])
    (fun u => u.cpu.f == 0x30 && u.out.cycles == 12) = true := by decide

/-- CB-18. -/
theorem test_res4C :
    runs (.res4C) (machine { cpu0 with c := 0xFF, f := 0xF0 } [])
    (fun u => u.cpu.c == 0xEF && u.cpu.f == 0xF0) = true := by decide

/-- CB-17. -/
theorem test_set6MemHl_stat :
    runs (.set6MemHl) (machine { cpu0 with h := 0xFF, l := 0x41 } [(0xFF41, 0x02)])
    (fun u => memRead u 0xFF41 == 0x42 && u.out.cycles == 16) = true := by decide

/-- SY-06: the default mode of STOP. -/
theorem test_stop_fault :
    exec (.stop 0) (machine { cpu0 with pc := 0x0102 } []) =
    .fault (.unimplementedOpcode 0x10 0x0100 (machine { cpu0 with pc := 0x0101 } [])) := rfl

/-- SY-13. -/
theorem test_undefined_fault :
    exec .undefinedDD (machine { cpu0 with pc := 0xC001 } []) =
    .fault (.unimplementedOpcode 0xDD 0xC000 (machine { cpu0 with pc := 0xC001 } [])) := rfl

/-- IN-02: timer before joypad, the other bits of IF kept. -/
theorem test_dispatch_priority :
    steps (machine { cpu0 with pc := 0x0234, ime := true } [(0xFFFF, 0x14), (0xFF0F, 0xF4)])
    (fun u => u.cpu.pc == 0x0050 && u.cpu.sp == 0xCFFE && !u.cpu.ime && memRead u 0xFF0F == 0xF0 &&
      u.out.cycles == 20) = true := by decide

/-- IN-07: pending with IME clear runs the instruction, here the zero byte NOP. -/
theorem test_pending_not_enabled :
    steps (machine { cpu0 with pc := 0x0234 } [(0xFFFF, 0x01), (0xFF0F, 0x01)])
    (fun u => u.cpu.pc == 0x0235 && memRead u 0xFF0F == 0x01 && u.out.cycles == 4) = true := by decide

/-- SY-10, its first step: EI takes effect at once. -/
theorem test_ei_no_delay :
    steps (machine cpu0 [(0xC100, 0xFB)]) (fun u => u.cpu.ime && u.cpu.pc == 0xC101) = true := by decide

/-- TM-11. -/
theorem test_timer_overflow :
    let t := advanceTimers 4 { machine cpu0 [(0xFF07, 0x05), (0xFF05, 0xFF), (0xFF06, 0xAB)] with timer := { divAcc := 0, timaAcc := 12 } }
  t.mem.read 0xFF05 = 0xAB ∧ t.mem.read 0xFF0F = 0x04 ∧ t.timer = { divAcc := 4, timaAcc := 0 } := by decide

/-- TM-13: overflow and an increment in one call. -/
theorem test_timer_two_increments :
    let t := advanceTimers 24 { machine cpu0 [(0xFF07, 0x05), (0xFF05, 0xFF), (0xFF06, 0x10)] with timer := { divAcc := 0, timaAcc := 8 } }
  t.mem.read 0xFF05 = 0x11 ∧ t.mem.read 0xFF0F = 0x04 ∧ t.timer = { divAcc := 24, timaAcc := 0 } := by decide

/-- PX-13: the next line matches LYC and requests the STAT interrupt. -/
theorem test_pixel_line_compare :
    let s := machine cpu0 [(0xFF40, 0x80), (0xFF41, 0x40), (0xFF44, 0x04), (0xFF45, 0x05)]
  let t := pixelStep 4 { s with ppu := { s.ppu with mode := .hblank, clock := 200 } }
  t.ppu.mode = .oamSearch ∧ t.ppu.clock = 0 ∧ t.mem.read 0xFF44 = 5 ∧ t.mem.read 0xFF41 = 0x46 ∧
    t.mem.read 0xFF0F = 0x02 := by decide

/-- PX-19. -/
theorem test_pixel_frame_wrap :
    let s := machine cpu0 [(0xFF40, 0x80), (0xFF41, 0x61), (0xFF44, 0x99), (0xFF45, 0x00)]
  let t := pixelStep 4 { s with ppu := { s.ppu with mode := .vblank, clock := 452 } }
  t.ppu.mode = .oamSearch ∧ t.mem.read 0xFF44 = 0 ∧ t.mem.read 0xFF41 = 0x66 ∧ t.mem.read 0xFF0F = 0x02 := by decide

/-- L8-15: the action group selected, A and Right held. -/
theorem test_joypad_groups :
    let s := machine { cpu0 with a := 0x10 } []
  let s := (s.setButton .a true).setButton .right true
  runs (.ldhMemNA 0x00) s (fun u => memRead u 0xFF00 == 0xDE) = true := by decide

/-- The worked example of R490: frequency 0x7FF, shift 1. -/
theorem test_sweep_overflow_on_trigger :
    let u := { SoundUnit.reset with power := true }
  let u := (((u.write 0xFF10 0x01).write 0xFF12 0xF0).write 0xFF13 0xFF).write 0xFF14 0x87
  u.ch1.enabled = false ∧ u.read 0xFF26 = 0xF0 := by decide

/-- R330: a masked interrupt wakes the Processor onto an undefined opcode; the fault leaves the halted flag set. -/
theorem test_woken_fault_keeps_halted :
    let s := machine { cpu0 with halted := true } [(0xC100, 0xDD), (0xFFFF, 0x01), (0xFF0F, 0x01)]
  step s = .fault (.unimplementedOpcode 0xDD 0xC100 { s with cpu := { s.cpu with pc := 0xC101 } }) := rfl

/-- R585, R340: JR -2 with a masked interrupt pending, awake or halted, ends the run; an interrupt that is taken does not.
-/
theorem test_finished :
    let s (ime halted : Bool) := machine { cpu0 with ime := ime, halted := halted } [(0xC100, 0x18), (0xC101, 0xFE), (0xFFFF, 0x01), (0xFF0F, 0x01)]
  (s false false).finished = true ∧ (s false true).finished = true ∧ (s true false).finished = false := by decide

/-- R61: INIT_MEM holds at every address, under the windows too; STAT is forced. -/
theorem test_init_mem_everywhere :
    let m := Memory.reset [(0x0000, 1), (0xA000, 2), (0xFEA0, 3), (0xFF10, 4), (0xFF41, 5)]
  m.read 0x0000 = 1 ∧ m.read 0xA000 = 2 ∧ m.read 0xFEA0 = 3 ∧ m.read 0xFF10 = 4 ∧ m.read 0xFF41 = 2 := by decide

/-- R502: duty 1 is high at steps 0 and 7 only. -/
theorem test_duty_output :
    let u (step : Nat) : SoundUnit := { ({ SoundUnit.reset with power := true }).setReg 0xFF11 0x40 with dutyStep1 := step, ch1 := { enabled := true, length := 0, timer := 4 }, env1 := { volume := 9, envTimer := 0 } }
  (List.range 8).map (fun k => ((u k).setReg 0xFF12 0xF0).outOf .c1) = [9, 0, 0, 0, 0, 0, 0, 9] ∧
    (u 0).outOf .c1 = 0 := by decide

/-- R503: the high nibble is the even sample; level 2 halves it, level 0 mutes it. -/
theorem test_wave_output :
    let u (i : Nat) (level : Byte) : SoundUnit := { (({ SoundUnit.reset with wave := SoundUnit.reset.wave.set 0 0xA7 }).setReg 0xFF1A 0x80).setReg 0xFF1C level with sampleIndex := i, ch3 := { enabled := true, length := 0, timer := 2 } }
  (u 0 0x20).outOf .c3 = 10 ∧ (u 1 0x20).outOf .c3 = 7 ∧ (u 0 0x40).outOf .c3 = 5 ∧ (u 1 0x60).outOf .c3 = 1 ∧
    (u 0 0x00).outOf .c3 = 0 := by decide

/-- R388 (a): residue 500 when the period becomes 16. -/
theorem test_timer_drains_residue :
    let t := advanceTimers 4 { machine cpu0 [(0xFF07, 0x05), (0xFF05, 0x10)] with timer := { divAcc := 0, timaAcc := 500 } }
  t.mem.read 0xFF05 = 0x2F ∧ t.mem.read 0xFF0F = 0 ∧ t.timer.timaAcc = 8 := by decide

/-- R8: Mix is a parameter, the default standing where it gives no pair; with the power off the pair is (0, 0). -/
theorem test_mix_parameter :
    let u := { SoundUnit.reset with power := true }
  u.mix { Config.default with mixPairs := [(u.mixInput, (1, 2))] } = (1, 2) ∧
  mixOf { Config.default with mixPairs := [({ u.mixInput with out1 := 15 }, (1, 2))] } u.mixInput = defaultMix 1 u.mixInput ∧
  SoundUnit.reset.mix { Config.default with mixPairs := [(u.mixInput, (1, 2))] } = (0, 0) := ⟨rfl, rfl, rfl⟩

/-- R428: SHADE_COLOUR[s] where the host gives colours. -/
theorem test_shade_colours :
    let c := { Config.default with shadeColours := some #v[0xFFFFFFFF, 0xAAAAAAFF, 0x555555FF, 0x000000FF] }
  shadeColour c 3 = some 0x000000FF ∧ shadeColour Config.default 3 = none := by decide

/-- The tables of the statements are not empty, and with the single instructions they are all 512 rows. -/
theorem witness_tables :
    regLoads.length = 49 ∧ (immLoads 0).length = 7 ∧ (memLoads 0 0).length = 12 ∧ (memStores 0 0).length = 13 ∧
    (pairLoads 0).length = 4 ∧ pushRows.length = 4 ∧ popRows.length = 4 ∧ (addRows 0).length = 9 ∧ (adcRows 0).length = 9 ∧
    (subRows 0).length = 9 ∧ (sbcRows 0).length = 9 ∧ (andRows 0).length = 9 ∧ (xorRows 0).length = 9 ∧
      (orRows 0).length = 9 ∧
    (cpRows 0).length = 9 ∧ incRows.length = 7 ∧ decRows.length = 7 ∧ addHlRows.length = 4 ∧ pairIncs.length = 4 ∧
    pairDecs.length = 4 ∧ accRotates.length = 4 ∧ (jumpRows 0).length = 5 ∧ (relRows 0).length = 5 ∧ (callRows 0).length = 5 ∧
    rstRows.length = 8 ∧ retRows.length = 5 ∧ undefinedRows.length = 11 ∧ shiftRegs.length = 56 ∧ shiftMems.length = 8 ∧
    bitRegs.length = 56 ∧ bitMems.length = 8 ∧ resRegs.length = 56 ∧ resMems.length = 8 ∧ setRegs.length = 56 ∧
    setMems.length = 8 := by
  repeat (first | exact rfl | apply And.intro)

/-- A well-formed instruction of three bytes. -/
theorem witness_DecodeOfEncode :
    (Instr.jpNn 0xFFFF).wellFormed = true := by decide

/-- Two packed decimal bytes, at the top of their range. -/
theorem witness_DecimalAdjust :
    isBcd (machine { cpu0 with a := 0x99 } []).cpu.a = true ∧ isBcd 0x99 = true ∧ isBcd 0x00 = true := by decide

/-- Both values of STOP_MODE. -/
theorem witness_HaltStopDiEi :
    (machine cpu0 []).cfg.stopMode = .fault ∧
    ({ machine cpu0 [] with cfg := { Config.default with stopMode := .halt } } : State).cfg.stopMode = .halt := by decide

/-- Nothing pending; pending with IME clear; pending with IME clear and halted. -/
theorem witness_StepRunsFetched :
    (pending (machine cpu0 [(0xC100, 0x3C)]) = 0 ∧ (machine cpu0 [(0xC100, 0x3C)]).cpu.halted = false ∧
      decodeBytes (memRead (machine cpu0 [(0xC100, 0x3C)]) 0xC100) 0 0 = .incA) ∧
    ((irq false true).cpu.ime = false ∧ (irq false true).cpu.halted = true ∧ pending (irq false true) ≠ 0) := by decide

/-- The highest and the lowest priority. -/
theorem witness_InterruptDispatch :
    ((irq true false).cpu.ime = true ∧
      ((irq true false).mem.read 0xFFFF &&& (irq true false).mem.read 0xFF0F).getLsbD 0 = true) ∧
    (let s := machine { cpu0 with ime := true } [(0xFFFF, 0x1F), (0xFF0F, 0xF0)]; s.cpu.ime = true ∧
      (s.mem.read 0xFFFF &&& s.mem.read 0xFF0F).getLsbD 4 = true ∧
      ∀ j : Fin 4, (s.mem.read 0xFFFF &&& s.mem.read 0xFF0F).getLsbD j = false) := by decide

/-- Halted with nothing pending, with an interrupt pending under both values of IME, and with the next instruction
completing and faulting. -/
theorem witness_HaltedSteps :
    ((machine { cpu0 with halted := true } []).cpu.halted = true ∧ pending (machine { cpu0 with halted := true } []) = 0) ∧
    ((irq true true).cpu.halted = true ∧ (irq true true).cpu.ime = true ∧ pending (irq true true) ≠ 0) ∧
    ((irq false true).cpu.halted = true ∧ (irq false true).cpu.ime = false ∧ pending (irq false true) ≠ 0) ∧
    (∃ t, exec .nop (irq false true) = .next t) ∧
    ∃ op addr u, exec .undefinedDD (irq false true) = .fault (.unimplementedOpcode op addr u) := 
    ⟨by decide, by decide, by decide, ⟨_, rfl⟩, ⟨_, _, _, rfl⟩⟩

/-- A state whose step faults, and one whose step faults at STOP. -/
theorem witness_OnlyUnimplementedOpcodesStop :
    step atUndefined = .fault (.unimplementedOpcode 0xDD 0xC100 (machine { cpu0 with pc := 0xC101 } [(0xC100, 0xDD)])) ∧
    step (machine cpu0 [(0xC100, 0x10)]) =
      .fault (.unimplementedOpcode 0x10 0xC100 (machine { cpu0 with pc := 0xC101 } [(0xC100, 0x10)])) := ⟨rfl, rfl⟩

/-- A first and a last address of every region. -/
theorem witness_BusTables :
    ((0x0000#16).toNat < 0x4000 ∧ (0x3FFF#16).toNat < 0x4000) ∧ (0x4000 ≤ (0x4000#16).toNat ∧ (0x7FFF#16).toNat < 0x8000) ∧
    (0x8000 ≤ (0x8000#16).toNat ∧ (0x9FFF#16).toNat < 0xA000) ∧ (0xA000 ≤ (0xA000#16).toNat ∧ (0xBFFF#16).toNat < 0xC000) ∧
    (0xC000 ≤ (0xC000#16).toNat ∧ (0xDFFF#16).toNat < 0xE000) ∧ (0xE000 ≤ (0xE000#16).toNat ∧ (0xFDFF#16).toNat < 0xFE00) ∧
    (0xFE00 ≤ (0xFE00#16).toNat ∧ (0xFE9F#16).toNat < 0xFEA0) ∧ (0xFEA0 ≤ (0xFEA0#16).toNat ∧ (0xFEFF#16).toNat < 0xFF00) ∧
    (0xFF00#16).toNat = 0xFF00 ∧ (0xFF10 ≤ (0xFF10#16).toNat ∧ (0xFF3F#16).toNat ≤ 0xFF3F) ∧ (0xFF04#16).toNat = 0xFF04 ∧
    (0xFF41#16).toNat = 0xFF41 ∧ (0xFF44#16).toNat = 0xFF44 ∧ (0xFF46#16).toNat = 0xFF46 ∧
    (0xFF00 < (0xFF01#16).toNat ∧ ¬ (0xFF10 ≤ (0xFF01#16).toNat ∧ (0xFF01#16).toNat ≤ 0xFF3F) ∧
      (0xFFFF#16).toNat = 0xFFFF) := by decide

/-- A cell with its alias, cells at the ends of the regions, and addresses with no plain cell. -/
theorem witness_PlainStores :
    State.reset.mem.wf ∧ plainCell 0xC000 = some 0xC000 ∧ plainCell 0xE000 = some 0xC000 ∧ plainCell 0xFDFF = some 0xDDFF ∧
    plainCell 0x8000 = some 0x8000 ∧ plainCell 0xFE9F = some 0xFE9F ∧ plainCell 0xFF0F = some 0xFF0F ∧
    plainCell 0xFFFF = some 0xFFFF ∧ plainCell 0xFF04 = none ∧ plainCell 0xFEA0 = none ∧ plainCell 0x7FFF = none := by decide

/-- The ranges of the last two clauses have addresses, and no address is in two of the clauses. -/
theorem witness_SpecialStores :
    State.reset.mem.wf ∧ (0xFEA0 ≤ (0xFEA0#16).toNat ∧ (0xFEA0#16).toNat < 0xFF00) ∧
    ((0x7FFF#16).toNat < 0x8000 ∧ (0x3FFF#16).toNat < 0x4000) ∧
    (0xFF10 ≤ (0xFF3F#16).toNat ∧ (0xFF3F#16).toNat ≤ 0xFF3F ∧ ¬ (0xFF10 ≤ (0xFF0F#16).toNat)) := by decide

/-- A canonical memory. -/
theorem witness_DmaCopies :
    State.reset.mem.wf ∧ (machine cpu0 [(0xC000, 0x12), (0xC09F, 0x34)]).mem.wf := by decide

/-- Both ends of every register window and of the ROM window, and a controller of every kind. -/
theorem witness_BankSwitching :
    ((0x1FFF#16).toNat < 0x2000 ∧ 0x2000 ≤ (0x2000#16).toNat ∧ (0x3FFF#16).toNat < 0x4000 ∧ (0x2FFF#16).toNat < 0x3000 ∧
      ¬ ((0x3000#16).toNat < 0x3000) ∧ ¬ ((0x4000#16).toNat < 0x4000) ∧ (0x5FFF#16).toNat < 0x6000 ∧
      ¬ ((0x6000#16).toNat < 0x6000) ∧ (0x7FFF#16).toNat < 0x8000) ∧
    (banked .flat).cart.ctl = .flat ∧ (banked (.mbc1 true 1 3 false)).cart.ctl = .mbc1 true 1 3 false ∧
    (banked (.mbc1 true 1 3 true)).cart.ctl = .mbc1 true 1 3 true ∧ (banked (.mbc3 true 1 0)).cart.ctl = .mbc3 true 1 0 ∧
    (banked (.mbc5 true 0x1FF 0)).cart.ctl = .mbc5 true 0x1FF 0 := by decide

/-- The last offset inside the RAM, the first outside it, a closed window, a clock register, and both ends of the windows of
the registers. -/
theorem witness_ExternalRam :
    Cells.Wf initZero (banked (.mbc5 true 1 0)).cart.xramSize (banked (.mbc5 true 1 0)).cart.xram ∧
    (ramBank (.mbc5 true 1 0) = some 0 ∧ 0 * 0x2000 + ((0xBFFF#16).toNat - 0xA000) < 8192) ∧
    (ramBank (.mbc5 true 1 1) = some 1 ∧ 8192 ≤ 1 * 0x2000 + ((0xA000#16).toNat - 0xA000)) ∧
    ramBank (.mbc1 false 1 0 false) = none ∧ ramBank (.mbc3 true 1 0x07) = some 7 ∧ ramBank (.mbc3 true 1 0x08) = none ∧
    ramBank (.mbc3 true 1 0x0D) = none ∧
    ((0x1FFF#16).toNat < 0x2000 ∧ (0x1A#8).toNat % 16 = 10 ∧ (0x0B#8).toNat % 16 ≠ 10) ∧
    (0x4000 ≤ (0x4000#16).toNat ∧ (0x5FFF#16).toNat < 0x6000 ∧ 0x6000 ≤ (0x6000#16).toNat ∧ (0x7FFF#16).toNat < 0x8000) ∧
    (banked (.mbc1 true 1 3 true)).cart.ctl = .mbc1 true 1 3 true ∧
      (banked (.mbc1 true 1 3 false)).cart.ctl = .mbc1 true 1 3 false ∧
    (banked (.mbc3 true 1 8)).cart.ctl = .mbc3 true 1 8 ∧ (banked (.mbc5 true 1 15)).cart.ctl = .mbc5 true 1 15 := by decide

/-- A canonical memory, and both cases of a press. -/
theorem witness_JoypadAndButtons :
    State.reset.mem.wf ∧ State.reset.joypad.buttons.get .start = false ∧ State.reset.cfg.joypadIrqOnPress = true := by decide

/-- Both states of the power, both values of bit 7, and both ends of every range. -/
theorem witness_SoundRegisters :
    SoundUnit.reset.power = false ∧ (SoundUnit.reset.write 0xFF26 0x80).power = true ∧ (0x80#8).getLsbD 7 = true ∧
    (0x00#8).getLsbD 7 = false ∧
    (∀ a ∈ [0xFF10, 0xFF25], 0xFF10 ≤ a ∧ a ≤ 0xFF25) ∧ (∀ a ∈ [0xFF27, 0xFF2F], 0xFF27 ≤ a ∧ a ≤ 0xFF2F) ∧
    (∀ a ∈ [0xFF30, 0xFF3F], 0xFF30 ≤ a ∧ a ≤ 0xFF3F) := by decide

/-- The power on and the trigger bit set. -/
theorem witness_TriggerReloads :
    (SoundUnit.reset.write 0xFF26 0x80).power = true ∧ (0x80#8).getLsbD 7 = true := by decide

/-- A register that is not 0. -/
theorem witness_NoiseRegisterNeverZero :
    SoundUnit.reset.lfsr ≠ 0 := by decide

/-- Both states of the power, one cycle below the period, the period reached, and cycles in a second. -/
theorem witness_SoundClocks :
    SoundUnit.reset.power = false ∧ (SoundUnit.reset.write 0xFF26 0x80).power = true ∧ Config.default.mixPairs = [] ∧
    SoundUnit.reset.fsAcc + 8191 < 8192 ∧ 8192 ≤ SoundUnit.reset.fsAcc + 8192 ∧ SoundUnit.reset.fsAcc + 8192 < 16384 ∧
    0 < Config.default.cpuHz := by decide

/-- The sweep clock before its period, at it with the sweep disabled, and at it with a frequency of 2047 and above. -/
theorem witness_SoundClocks_sweep :
    (let u := ({ SoundUnit.reset with sweepTimer := 2 } : SoundUnit); 1 < u.sweepTimer) ∧
    (SoundUnit.reset.sweepTimer ≤ 1 ∧ SoundUnit.reset.sweepEnabled = false) ∧
    (let u := ({ SoundUnit.reset with sweepTimer := 1, sweepEnabled := true, shadow := 1365 } : SoundUnit).setReg 0xFF10 0x11;
      u.sweepTimer ≤ 1 ∧ u.sweepEnabled = true ∧ (u.reg 0xFF10).toNat / 16 % 8 ≠ 0 ∧ (u.reg 0xFF10).toNat % 8 ≠ 0 ∧
      (u.reg 0xFF10).getLsbD 3 = false ∧ u.shadow + u.shadow / 2 ^ ((u.reg 0xFF10).toNat % 8) = 2047) ∧
    (let u := ({ SoundUnit.reset with sweepTimer := 1, sweepEnabled := true, shadow := 1366 } : SoundUnit).setReg 0xFF10 0x11;
      2047 < u.shadow + u.shadow / 2 ^ ((u.reg 0xFF10).toNat % 8)) := by decide

/-- A timer one cycle above the cycles, at them, and one reload further. -/
theorem witness_SoundClocks_timer :
    (let u := SoundUnit.reset.setChannel .c3 { enabled := true, length := 0, timer := 5 };
      4 < (u.channel .c3).timer ∧ (u.channel .c3).timer ≤ 5 ∧ 4100 < (u.channel .c3).timer + u.period .c3 ∧
        0 < (u.channel .c3).timer) := by decide

/-- The timer disabled; below the period; the period reached; two increments; the residue of R388 with cycles that complete
one period more. -/
theorem witness_TimerOverflow :
    State.reset.mem.wf ∧ (State.reset.mem.read 0xFF07).toNat / 4 % 2 = 0 ∧
    (let s := { machine cpu0 [(0xFF07, 0x05), (0xFF05, 0xFF)] with timer := { divAcc := 255, timaAcc := 12 } }; s.mem.wf ∧
      (s.mem.read 0xFF07).toNat / 4 % 2 = 1 ∧ (s.mem.read 0xFF07).toNat % 4 = 1 ∧
      s.timer.timaAcc + 3 < 16 ∧ 16 ≤ s.timer.timaAcc + 4 ∧ s.timer.timaAcc + 19 < 2 * 16) ∧
    (let s := { machine cpu0 [(0xFF07, 0x05), (0xFF05, 0xFD)] with timer := { divAcc := 0, timaAcc := 8 } }; s.mem.wf ∧
      (s.mem.read 0xFF07).toNat % 8 = 5 ∧ 8 ≤ s.timer.timaAcc ∧ s.timer.timaAcc < 16 ∧
      (s.mem.read 0xFF05).toNat < 254) ∧
    (let s := { machine cpu0 [(0xFF07, 0x05), (0xFF05, 0xDF)] with timer := { divAcc := 0, timaAcc := 500 } }; s.mem.wf ∧
      (s.mem.read 0xFF07).toNat % 8 = 5 ∧ s.timer.timaAcc = 500 ∧
      (s.mem.read 0xFF05).toNat + (500 + 12) / 16 < 256) := by decide

/-- A canonical memory. -/
theorem witness_TimerInsensitiveToSplit :
    State.reset.mem.wf := by decide

/-- The LCD off and on, the budget reached and not, both branches of H-blank and of V-blank. -/
theorem witness_PixelSteps :
    State.reset.mem.wf ∧ (State.reset.mem.read 0xFF40).getLsbD 7 = false ∧
    (let s := machine cpu0 [(0xFF40, 0x80), (0xFF44, 143)]; s.mem.wf ∧ (s.mem.read 0xFF40).getLsbD 7 = true ∧
      s.ppu.mode = .oamSearch ∧ ¬ (s.ppu.mode.budget ≤ s.ppu.clock + 79) ∧
      s.ppu.mode.budget ≤ s.ppu.clock + 80 ∧ (s.mem.read 0xFF41).extractLsb' 0 2 = s.ppu.mode.number ∧
      s.mem.read 0xFF44 = 143) ∧
    (machine cpu0 [(0xFF44, 142)]).mem.read 0xFF44 ≠ 143 ∧ (machine cpu0 [(0xFF44, 152)]).mem.read 0xFF44 ≠ 153 ∧
    (machine cpu0 [(0xFF44, 153)]).mem.read 0xFF44 = 153 := by decide

/-- The background enabled and disabled, the window covering a pixel and beginning beside it, a memory whose first sprite
misses the pixel and whose second shows. -/
theorem witness_FrameIsItsPixels :
    (Memory.read [] 0xFF40).getLsbD 0 = false ∧
    (let m := (machine cpu0 [(0xFF40, 0x21), (0xFF4A, 143), (0xFF4B, 166)]).mem;
      (m.read 0xFF40).getLsbD 0 = true ∧ (m.read 0xFF40).getLsbD 5 = true ∧
      ((m.read 0xFF4A).toNat ≤ 143 ∧ (m.read 0xFF4B).toNat ≤ 159 + 7) ∧ ¬ ((m.read 0xFF4B).toNat ≤ 158 + 7)) ∧
    (let m := (machine cpu0 [(0xFE04, 16), (0xFE05, 8), (0x8000, 0x80)]).mem;
      spriteIndex m 0 0 0 = none ∧ spriteIndex m 0 0 1 = some 1 ∧ spriteIndex m 1 0 1 = some 0) := by decide

/-- A step that completes and a step that faults, on canonical memories. -/
theorem witness_EnginesCommute :
    (∃ t, executeStep State.reset = .next t) ∧ (∃ f, executeStep atUndefined = .fault f) ∧
      State.reset.mem.wf := ⟨⟨_, rfl⟩, ⟨_, rfl⟩, by decide⟩

/-- The default configuration and the blank cartridge. -/
theorem witness_ResetMeetsInvariant :
    Config.default.Valid ∧ Cartridge.blank.Inv := by decide

/-- The first and the last unused cell of every range. -/
theorem witness_MemoryStaysCanonical :
    ∀ a ∈ [0x0000, 0x7FFF, 0xA000, 0xBFFF, 0xE000, 0xFDFF, 0xFEA0, 0xFF00, 0xFF10, 0xFF3F], unusedCell a = true := by decide

/-- The premises of the invariant statements hold together of the reset state, whose step completes. -/
theorem witness_invariants :
    (∃ t, step State.reset = .next t) ∧ State.reset.cpu.f &&& 0x0F = 0 ∧ State.reset.mem.wf ∧ State.reset.timer.Inv ∧
    State.reset.cart.Inv ∧ pixelInv State.reset ∧ 0 < State.reset.cfg.cpuHz ∧ State.reset.snd.Inv State.reset.cfg := 
    ⟨⟨_, rfl⟩, by decide, by decide, by decide, by decide, reset_pixelInv, by decide, by decide⟩

/-- An instruction that completes, and a pending interrupt with IME set. -/
theorem witness_ProcessorFlagsRule :
    (∃ t, exec .ei State.reset = .next t) ∧ pending (irq true true) ≠ 0 ∧
      (irq true true).cpu.ime = true := ⟨⟨_, rfl⟩, by decide⟩

/-- A step and its executeStep. -/
theorem witness_CycleCounts :
    (∃ t, executeStep State.reset = .next t) ∧ ∃ u, step State.reset = .next u := ⟨⟨_, rfl⟩, ⟨_, rfl⟩⟩

/-- An instruction that stores to a plain cell, another address, and an instruction that stores nothing. -/
theorem witness_OtherAddressesReadAsBefore :
    (Instr.ldMemNnA 0xC000).wellFormed = true ∧ (∃ t, exec (.ldMemNnA 0xC000) State.reset = .next t) ∧
    stores State.reset (.ldMemNnA 0xC000) = [(0xC000, State.reset.cpu.a)] ∧ plainCell 0xC000 = some 0xC000 ∧
    plainCell 0xC001 ≠ some 0xC000 ∧ stores State.reset .nop = [] := ⟨by decide, ⟨_, rfl⟩, rfl, by decide, by decide, rfl⟩

/-- A stack in working RAM, and one that ends at IF. -/
theorem witness_PushThenPop :
    State.reset.mem.wf ∧ plainCell ((machine cpu0 []).cpu.sp - 1) = some 0xCFFF ∧
    plainCell ((machine cpu0 []).cpu.sp - 2) = some 0xCFFE ∧ plainCell (0xFF10 - 1) = some 0xFF0F ∧
    plainCell (0xFF10 - 2) = some 0xFF0E := by decide

/-- A state with the invariant, which restores its own snapshot, and a snapshot with a low bit of F set. -/
theorem witness_RestoreOfExtract :
    State.reset.Inv ∧ (machine { cpu0 with f := 0x01 } []).cpu.f &&& 0x0F ≠ 0 := 
    ⟨⟨by decide, by decide, by decide, reset_pixelInv, by decide, by decide, by decide⟩, by decide⟩

/-- Images on both sides of the shortest length, of a supported and of an unsupported kind. -/
theorem witness_LoadAndReset :
    (List.replicate 0x0149 (0 : Byte)).length < 0x014A ∧ 0x014A ≤ (List.replicate 0x014A (0x13 : Byte)).length ∧
    (List.replicate 0x014A (0x13 : Byte)).getD 0x0147 0 = 0x13 ∧
      (List.replicate 0x014A (0x14 : Byte)).getD 0x0147 0 = 0x14 := by
  simp only [List.length_replicate, List.getD_eq_getElem?_getD, List.getElem?_replicate]
  decide

end Sys2Proof.Tests
end

section
/-! The registers and their paired views (R20, R21): the bytes of a word as its quotient and remainder by 256. -/

namespace Sys2Proof.Machine

theorem joinBytes_toNat (a b : Byte) : (joinBytes a b).toNat = a.toNat * 256 + b.toNat := by
  rw [joinBytes, BitVec.toNat_append, Nat.shiftLeft_eq, mul_comm, ← Nat.two_pow_add_eq_or_of_lt b.isLt, mul_comm]

theorem hi8_eq_div (w : Word) : hi8 w = BitVec.ofNat 8 (w.toNat / 256) := by
  apply BitVec.eq_of_toNat_eq
  simp [hi8, BitVec.extractLsb'_toNat, Nat.shiftRight_eq_div_pow]

theorem lo8_eq_mod (w : Word) : lo8 w = BitVec.ofNat 8 (w.toNat % 256) := by
  apply BitVec.eq_of_toNat_eq
  simp [lo8, BitVec.extractLsb'_toNat]

end Sys2Proof.Machine

namespace Sys2Proof.Proofs

open Sys2Proof.Machine

/-- Settles O6: a register write by the cases of its name, the pairs by the two bytes of a word. -/
theorem registersAndPairs : Obligations.RegistersAndPairs := by
  refine ⟨Processor.reg_setReg, fun p r v => by simp, fun _ => rfl, fun p w => ?_⟩
  refine ⟨joinBytes_toNat _ _, joinBytes_toNat _ _, joinBytes_toNat _ _, ?_⟩
  simp only [← hi8_eq_div, ← lo8_eq_mod]
  exact ⟨rfl, rfl, rfl⟩

end Sys2Proof.Proofs
end

section
/-! What an instruction, the dispatch and the idle step can do to the Processor, said once: all shapes but five only write
ordinary registers, and what such writes keep, those shapes keep. -/

namespace Sys2Proof.Machine

variable {s : State}

/-- A property of the Processor that no write of an ordinary register can break: registers, pairs, flags, SP and PC, but
neither IME nor the halted flag. -/
structure RegisterStable (Q : Processor → Prop) : Prop where
  reg : ∀ p r v, Q p → Q (p.setReg r v)
  pair : ∀ p r w, Q p → Q (p.setPair r w)
  stackPair : ∀ p r w, Q p → Q (p.setStackPair r w)
  flags : ∀ p f, Q p → Q (p.setFlags f)
  sp : ∀ p w, Q p → Q { p with sp := w }
  pc : ∀ p w, Q p → Q { p with pc := w }

/-- The shapes that write IME or the halted flag. -/
def Op.isControl : Op → Bool
  | .halt | .stop | .di | .ei | .reti => true
  | _ => false

theorem shape_prefixCb_isControl (op2 : Byte) : (shape (.prefixCb op2)).isControl = false := by
  revert op2
  decide

/-- What no write of an ordinary register can break, no shape breaks but the five that write IME or the halted flag. -/
theorem runOp_keeps_registers {Q : Processor → Prop} (hQ : RegisterStable Q) (hs : Q s.cpu) {o : Op} (ho : o.isControl = false) :
    Keeps (fun t => Q t.cpu) (runOp s o) := by
  have done {t : State} {n : Nat} (ht : Q t.cpu) : Keeps (fun t => Q t.cpu) (Machine.complete t n) := .complete ht
  have reg (r : Reg) (v : Byte) := hQ.reg _ r v hs
  have pair (r : Pair) (w : Word) := hQ.pair _ r w hs
  have flags (f : Flags) := hQ.flags _ f hs
  have regFlags (r : Reg) (v : Byte) (f : Flags) := hQ.flags _ f (reg r v)
  have pairFlags (r : Pair) (w : Word) (f : Flags) := hQ.flags _ f (pair r w)
  have write (a : Word) (v : Byte) : Q (memWrite s a v).cpu := by simpa using hs
  have writeFlags (a : Word) (v : Byte) (f : Flags) := hQ.flags _ f (write a v)
  have push (w : Word) : Q (push16 s w).cpu := by simpa using hQ.sp _ _ hs
  have jump (w : Word) := hQ.pc _ w hs
  have call (w pc : Word) := hQ.pc _ pc (push w)
  have ret (sp pc : Word) := hQ.pc _ pc (hQ.sp _ sp hs)
  cases o with
  | halt | stop | di | ei | reti => cases ho
  | nop => exact done hs
  | undefined op => rintro t ⟨⟩
  | daa | cpl | rotateA op | alu op src => exact done (regFlags _ _ _)
  | scf | ccf | compare src => exact done (flags _)
  | loadReg | loadImm | load => exact done (reg _ _)
  | store a src cost => exact done (write _ _)
  | loadMove delta => exact done (hQ.pair _ .hl (s.hl + delta) (reg .a _))
  | storeMove delta => exact done (hQ.pair _ .hl (s.hl + delta) (write _ _))
  | loadPair | movePair => exact done (pair _ _)
  | storeSp nn => exact done (by simpa using hs)
  | loadSpHl => exact done (hQ.sp _ _ hs)
  | loadHlSp | addHl => exact done (pairFlags _ _ _)
  | push p => exact done (push _)
  | pop p => exact done (hQ.stackPair _ _ _ (hQ.sp _ _ hs))
  | addSp e => exact done (hQ.flags _ _ (hQ.sp _ _ hs))
  | jumpHl => exact done (jump _)
  | rst target => exact done (call _ _)
  | jump cc nn => cases cc; exacts [done (jump _), .ite (done (jump _)) (done hs)]
  | jumpRel cc e => cases cc; exacts [done (jump _), .ite (done (jump _)) (done hs)]
  | call cc nn => cases cc; exacts [done (call _ _), .ite (done (call _ _)) (done hs)]
  | ret cc => cases cc; exacts [done (ret _ _), .ite (done (ret _ _)) (done hs)]
  | inc x | dec x | shift op x => cases x; exacts [done (writeFlags _ _ _), done (regFlags _ _ _)]
  | testBit b x => cases x; exacts [done (flags _), done (flags _)]
  | resetBit b x | setBit b x => cases x; exacts [done (write _ _), done (reg _ _)]

/-- Where STOP completes, it sets the halted flag (R291). -/
theorem execStop_keeps {P : State → Prop} {n : Byte} (h : P (s.halt.withCycles 4)) : Keeps P (execStop n s) := by
  unfold execStop
  split
  · rintro t ⟨⟩
  · exact .complete h

@[simp] theorem wake_cpu (s : State) : (wake s).cpu = { s.cpu with halted := s.cpu.halted && pending s == 0 } := rfl

/-- Taking an interrupt clears IME, lowers SP by 2 and jumps (R341). -/
@[simp] theorem takeInterrupt_cpu (b : Fin 5) (s : State) :
    (takeInterrupt b s).cpu = { s.cpu with ime := false, sp := s.cpu.sp - 2, pc := interruptVector b } := by
  simp [takeInterrupt]

end Sys2Proof.Machine
end

section
/-! The low nibble of F (R23). -/

namespace Sys2Proof.Machine

variable {s : State}

/-- The low nibble of F is 0 after every write of a register or of the flags; POP AF masks the popped byte (R185). -/
theorem flagNibble_stable : RegisterStable (fun p => p.f &&& 0x0F = 0) where
  reg p r v h := by simpa using h
  pair p r w h := by simpa using h
  stackPair p r w h := by
    cases r with
    | af => exact (BitVec.and_assoc ..).trans BitVec.and_zero
    | _ => exact h
  flags _ f _ := f.toByte_low
  sp _ _ h := h
  pc _ _ h := h

theorem runOp_keeps_flagNibble (hs : s.cpu.f &&& 0x0F = 0) (o : Op) : Keeps (fun t => t.cpu.f &&& 0x0F = 0) (runOp s o) := by
  cases o with
  | halt | di | ei | reti => exact .complete hs
  | stop => exact execStop_keeps (n := 0) hs
  | _ => exact runOp_keeps_registers flagNibble_stable hs rfl

theorem executeStep_keeps_flagNibble (hs : s.cpu.f &&& 0x0F = 0) : Keeps (fun t => t.cpu.f &&& 0x0F = 0) (executeStep s) := by
  obtain ⟨-, -, h⟩ | ⟨-, -, h⟩ | ⟨-, -, h⟩ := executeStep_cases s <;> rw [h]
  · rintro t ⟨⟩
    simpa using hs
  · rintro t ⟨⟩
    exact hs
  · intro t ht
    rw [keepHalted_next, executeFetched, exec_eq_run] at ht
    exact runOp_keeps_flagNibble (s := (wake s).setPc _) hs _ t ht

end Sys2Proof.Machine

namespace Sys2Proof.Proofs

open Sys2Proof.Machine

/-- Settles O48: every write of F goes through the flags or the mask of POP AF, and the engines do not touch F. -/
theorem flagNibbleStaysZero : Obligations.FlagNibbleStaysZero := by
  intro s t hs ht
  obtain ⟨u, hu, rfl⟩ := step_next ht
  rw [(advanceEngines_keeps u _).1]
  exact executeStep_keeps_flagNibble hs u hu

end Sys2Proof.Proofs
end

section
/-! IME and the halted flag (R27, R28). -/

namespace Sys2Proof.Machine

/-- IME after a shape, from IME before it (R280, R292, R293). -/
def Op.imeAfter (ime : Bool) : Op → Bool
  | .ei | .reti => true
  | .di => false
  | _ => ime

/-- The halted flag after a shape, from the flag before it (R290, R291). -/
def Op.haltedAfter (halted : Bool) : Op → Bool
  | .halt | .stop => true
  | _ => halted

theorem Op.imeAfter_eq {o : Op} (ho : o.isControl = false) (ime : Bool) : o.imeAfter ime = ime := by
  cases o with
  | halt | stop | di | ei | reti => cases ho
  | _ => rfl

theorem Op.haltedAfter_eq {o : Op} (ho : o.isControl = false) (halted : Bool) : o.haltedAfter halted = halted := by
  cases o with
  | halt | stop | di | ei | reti => cases ho
  | _ => rfl

/-- No write of an ordinary register touches IME or the halted flag. -/
theorem imeHalted_stable (ime halted : Bool) : RegisterStable (fun p => p.ime = ime ∧ p.halted = halted) where
  reg p r v h := by simpa using h
  pair p r w h := by simpa using h
  stackPair p r w h := by simpa using h
  flags _ _ h := h
  sp _ _ h := h
  pc _ _ h := h

theorem runOp_imeHalted (s : State) (o : Op) :
    Keeps (fun t => t.cpu.ime = o.imeAfter s.cpu.ime ∧ t.cpu.halted = o.haltedAfter s.cpu.halted) (runOp s o) := by
  cases o with
  | halt | di | ei | reti => exact .complete ⟨rfl, rfl⟩
  | stop => exact execStop_keeps (n := 0) ⟨rfl, rfl⟩
  | _ => exact runOp_keeps_registers (imeHalted_stable _ _) ⟨rfl, rfl⟩ rfl

end Sys2Proof.Machine

namespace Sys2Proof.Proofs

open Sys2Proof.Machine

/-- Settles O53: the two flags by the shape of the instruction, the dispatch by its case of `executeStep`. -/
theorem processorFlagsRule : Obligations.ProcessorFlagsRule := by
  refine ⟨fun i s t h => ?_, fun s hp hi => ?_, fun c s => (advanceEngines_keeps s c).1⟩
  · rw [exec_eq_run] at h
    have flags := runOp_imeHalted s (shape i) t h
    cases i with
    | prefixCb op2 =>
      have hc := shape_prefixCb_isControl op2
      rwa [Op.imeAfter_eq hc, Op.haltedAfter_eq hc] at flags
    | _ => exact flags
  · obtain ⟨-, -, h⟩ | ⟨h0, -, -⟩ | ⟨h0 | h0, -, -⟩ := executeStep_cases s
    · exact ⟨_, h, by simp, by simpa using fun _ => hp⟩
    · exact absurd h0 hp
    · exact absurd h0 hp
    · simp [h0] at hi

end Sys2Proof.Proofs
end

section
/-! The cells of the raw byte array that a step stores in (R63, R77): only those that some rule uses. What a store to such a
cell cannot break, a step keeps. -/

namespace Sys2Proof.Machine

open Sys2Proof.Claims

variable {s : State} {M : Memory → Prop} (hM : ∀ m a v, a < 0x10000 → unusedCell a = false → M m → M (m.write a v))

include hM

theorem memWrite_keeps_mem (hs : M s.mem) (addr : Word) (v : Byte) : M (memWrite s addr v).mem := by
  rcases memWrite_cases s addr v with ⟨_, h⟩ | ⟨_, _, _, h⟩ | ⟨a, w, ha, h⟩ | h | h | h | ⟨_, _, _, h⟩ | h | h <;> rw [h]
  · exact hs
  · exact hs
  · exact hM _ a w (by omega) (by simp only [unusedCell, decide_eq_false_iff_not]; omega) hs
  · exact hM _ 0xFF41 _ (by decide) (by decide) hs
  · exact hM _ 0xFF04 0 (by decide) (by decide) hs
  · refine dmaCopy_keeps (P := fun t => M t.mem) (fun t a w hlo hhi ht => ?_) (hM _ 0xFF46 _ (by decide) (by decide) hs) v
    exact hM _ a w (by omega) (by simp only [unusedCell, decide_eq_false_iff_not]; omega) ht
  · exact hs
  · exact hs
  · exact hs

theorem executeStep_keeps_mem (hs : M s.mem) : Keeps (fun t => M t.mem) (executeStep s) :=
  executeStep_keeps ⟨fun _ _ h => h, fun _ a v h => memWrite_keeps_mem hM h a v, fun _ _ h => h⟩
    (fun _ v h => hM _ 0xFF0F v (by decide) (by decide) h) hs

theorem advanceEngines_keeps_mem (hs : M s.mem) (c : Nat) : M (advanceEngines c s).mem := by
  have timers : M (advanceTimers c s).mem :=
    advanceTimers_keeps (P := fun t => M t.mem)
      (fun _ _ _ ha h => by obtain rfl | rfl | rfl := ha <;> exact hM _ _ _ (by decide) (by decide) h) (fun _ _ h => h) hs c
  exact pixelStep_keeps (P := fun t => M t.mem)
    (fun _ _ _ ha h => by obtain rfl | rfl | rfl := ha <;> exact hM _ _ _ (by decide) (by decide) h)
    (fun _ _ h => h) (fun _ _ h => h) timers c

/-- What a store to a used cell cannot break, a step keeps. -/
theorem step_keeps_mem (hs : M s.mem) : Keeps (fun t => M t.mem) (step s) := by
  intro t ht
  obtain ⟨u, hu, rfl⟩ := step_next ht
  exact advanceEngines_keeps_mem hM (executeStep_keeps_mem hM hs u hu) _

end Sys2Proof.Machine

namespace Sys2Proof.Proofs

open Sys2Proof.Machine Sys2Proof.Claims

/-- Settles O49: a step stores only in used cells, and such a store keeps the form and every unused cell. -/
theorem memoryStaysCanonical : Obligations.MemoryStaysCanonical := by
  intro s t hs ht
  refine step_keeps_mem (M := fun m => m.wf ∧ ∀ a, unusedCell a = true → m.read a = s.mem.read a) ?_ ⟨hs, fun _ _ => rfl⟩ t ht
  rintro m a v ha hu ⟨hm, hread⟩
  refine ⟨Memory.wf_write hm ha v, fun b hb => ?_⟩
  have hab : a ≠ b := by rintro rfl; simp [hu] at hb
  rw [Memory.read_write hm, if_neg hab, hread b hb]

end Sys2Proof.Proofs
end

section
/-! The read table of the bus (R62): one lemma for each region, the cell of `mem` that an address reads, and what a store to a
cell does to every read. -/

namespace Sys2Proof.Machine

open Sys2Proof.Claims

/-- The cell of `mem` that a read of the address returns: that of a plain address, or of one of the four registers whose writes
alone have effects of their own: DIV, STAT, LY and the DMA register (R62, R79). -/
def readCell (b : Word) : Option Nat :=
  if b.toNat = 0xFF04 ∨ b.toNat = 0xFF41 ∨ b.toNat = 0xFF44 ∨ b.toNat = 0xFF46 then some b.toNat else plainCell b

variable {s t : State} {addr b : Word} {v : Byte} {a : Nat}

theorem plainCell_eq_some_iff : plainCell b = some a ↔
    (0x8000 ≤ b.toNat ∧ b.toNat < 0xA000 ∨ 0xC000 ≤ b.toNat ∧ b.toNat < 0xE000 ∨ 0xFE00 ≤ b.toNat ∧ b.toNat < 0xFEA0 ∨
        0xFF00 < b.toNat ∧ b.toNat ≠ 0xFF04 ∧ b.toNat ≠ 0xFF41 ∧ b.toNat ≠ 0xFF44 ∧ b.toNat ≠ 0xFF46 ∧
          ¬ (0xFF10 ≤ b.toNat ∧ b.toNat ≤ 0xFF3F)) ∧ a = b.toNat ∨
      (0xE000 ≤ b.toNat ∧ b.toNat < 0xFE00) ∧ a + 0x2000 = b.toNat := by
  unfold plainCell
  dsimp only
  split_ifs <;> simp only [Option.some.injEq, false_iff] <;> omega

theorem readCell_eq_some_iff : readCell b = some a ↔
    (0x8000 ≤ b.toNat ∧ b.toNat < 0xA000 ∨ 0xC000 ≤ b.toNat ∧ b.toNat < 0xE000 ∨ 0xFE00 ≤ b.toNat ∧ b.toNat < 0xFEA0 ∨
        0xFF00 < b.toNat ∧ ¬ (0xFF10 ≤ b.toNat ∧ b.toNat ≤ 0xFF3F)) ∧ a = b.toNat ∨
      (0xE000 ≤ b.toNat ∧ b.toNat < 0xFE00) ∧ a + 0x2000 = b.toNat := by
  unfold readCell
  split_ifs
  · simp only [Option.some.injEq]
    omega
  · rw [plainCell_eq_some_iff]
    omega

theorem memRead_rom (h : b.toNat < 0x8000) : memRead s b = s.cart.readRom b.toNat := by
  simp (disch := omega) only [memRead, if_pos]

theorem memRead_xram (h : 0xA000 ≤ b.toNat ∧ b.toNat < 0xC000) : memRead s b = s.cart.readRam b.toNat := by
  simp (disch := omega) only [memRead, if_pos, if_neg]

theorem memRead_unusable (h : 0xFEA0 ≤ b.toNat ∧ b.toNat < 0xFF00) : memRead s b = 0xFF := by
  simp (disch := omega) only [memRead, if_pos, if_neg]

theorem memRead_joypad (h : b.toNat = 0xFF00) : memRead s b = s.joypad.read := by
  simp (disch := omega) only [memRead, if_pos, if_neg]

theorem memRead_sound (h : 0xFF10 ≤ b.toNat ∧ b.toNat ≤ 0xFF3F) : memRead s b = s.snd.read b.toNat := by
  simp (disch := omega) only [memRead, if_pos, if_neg]

theorem memRead_cell (h : readCell b = some a) : memRead s b = s.mem.read a := by
  rw [readCell_eq_some_iff] at h
  obtain ⟨h, rfl⟩ | ⟨h, ha⟩ := h
  · obtain h | h | h | h := h <;> simp (disch := omega) only [memRead, if_pos, if_neg]
  · rw [show a = b.toNat - 0x2000 by omega]
    simp (disch := omega) only [memRead, if_pos, if_neg]

/-- The regions of R62, each address in one of them. -/
theorem readRegions (b : Word) : b.toNat < 0x8000 ∨ (0xA000 ≤ b.toNat ∧ b.toNat < 0xC000) ∨
    (0xFEA0 ≤ b.toNat ∧ b.toNat < 0xFF00) ∨ b.toNat = 0xFF00 ∨ (0xFF10 ≤ b.toNat ∧ b.toNat ≤ 0xFF3F) ∨
    ∃ a, readCell b = some a := by
  by_cases hcell : ∃ a, readCell b = some a
  · simp only [hcell, or_true]
  · have hplain : readCell b ≠ some b.toNat := fun h => hcell ⟨_, h⟩
    have hecho : readCell b ≠ some (b.toNat - 0x2000) := fun h => hcell ⟨_, h⟩
    simp only [hcell, or_false]
    rw [Ne, readCell_eq_some_iff] at hplain hecho
    omega

/-- Two states read alike at an address if what its region reads is alike in both. -/
theorem memRead_congr (hrom : b.toNat < 0x8000 → t.cart.readRom b.toNat = s.cart.readRom b.toNat)
    (hxram : 0xA000 ≤ b.toNat ∧ b.toNat < 0xC000 → t.cart.readRam b.toNat = s.cart.readRam b.toNat)
    (hjoypad : b.toNat = 0xFF00 → t.joypad.read = s.joypad.read)
    (hsnd : 0xFF10 ≤ b.toNat ∧ b.toNat ≤ 0xFF3F → t.snd.read b.toNat = s.snd.read b.toNat)
    (hcell : ∀ a, readCell b = some a → t.mem.read a = s.mem.read a) : memRead t b = memRead s b := by
  rcases readRegions b with h | h | h | h | h | ⟨a, h⟩
  · rw [memRead_rom h, memRead_rom h, hrom h]
  · rw [memRead_xram h, memRead_xram h, hxram h]
  · rw [memRead_unusable h, memRead_unusable h]
  · rw [memRead_joypad h, memRead_joypad h, hjoypad h]
  · rw [memRead_sound h, memRead_sound h, hsnd h]
  · rw [memRead_cell h, memRead_cell h, hcell a h]

/-- A store to a cell shows at the addresses that read the cell, and nowhere else. -/
theorem memRead_setMem (hs : s.mem.wf) (a : Nat) (v : Byte) (b : Word) :
    memRead (s.setMem a v) b = if readCell b = some a then v else memRead s b := by
  split
  · rename_i h
    rw [memRead_cell h, State.setMem_mem, Memory.read_write hs, if_pos rfl]
  · rename_i h
    refine memRead_congr (fun _ => rfl) (fun _ => rfl) (fun _ => rfl) (fun _ => rfl) fun c hc => ?_
    rw [State.setMem_mem, Memory.read_write hs, if_neg]
    rintro rfl
    exact h hc

theorem memWrite_plainCell (h : plainCell addr = some a) : memWrite s addr v = s.setMem a v := by
  rw [plainCell_eq_some_iff] at h
  obtain ⟨h | h | h | h, rfl⟩ | ⟨h, ha⟩ := h
  · exact memWrite_vram h
  · exact memWrite_wram h
  · exact memWrite_oam h
  · exact memWrite_plain h
  · rw [memWrite_echo h, ← ha, Nat.add_sub_cancel]

/-- The cell of a plain address is read at plain addresses only. -/
theorem readCell_iff_plainCell (h : plainCell addr = some a) : readCell b = some a ↔ plainCell b = some a := by
  rw [plainCell_eq_some_iff] at h
  rw [readCell_eq_some_iff, plainCell_eq_some_iff]
  omega

end Sys2Proof.Machine

namespace Sys2Proof.Proofs

open Sys2Proof.Machine

/-- Settles O31: a plain address stores in its cell, and a store to a cell shows at the addresses that read it. -/
theorem plainStores : Obligations.PlainStores := by
  intro s addr b v a hs haddr
  rw [memWrite_plainCell haddr, memRead_setMem hs]
  exact ⟨fun hb => if_pos ((readCell_iff_plainCell haddr).2 hb), fun hb => if_neg (mt (readCell_iff_plainCell haddr).1 hb)⟩

end Sys2Proof.Proofs
end

section
/-! The bus tables, region by region (R62, R63). -/

namespace Sys2Proof.Machine

theorem extractLsb'_eq_ofNat {w : Nat} (x : BitVec w) (i n : Nat) : x.extractLsb' i n = BitVec.ofNat n (x.toNat / 2 ^ i) := by
  rw [BitVec.extractLsb', Nat.shiftRight_eq_div_pow]

/-- The fixed window of the image (R93). -/
theorem Cartridge.readRom_fixed {a : Nat} (h : a < 0x4000) (c : Cartridge) : c.readRom a = c.romByte a := by
  rw [readRom, romOffset, if_pos h]

/-- The switchable window of the image (R94). -/
theorem Cartridge.readRom_switchable {a : Nat} (h : 0x4000 ≤ a) (c : Cartridge) :
    c.readRom a = c.romByte (c.ctl.romBank * 0x4000 + (a - 0x4000)) := by
  rw [readRom, romOffset, if_neg (by omega)]

end Sys2Proof.Machine

namespace Sys2Proof.Proofs

open Sys2Proof.Machine

/-- Settles O30: each row of the two tables is the rule of its region. -/
theorem busTables : Obligations.BusTables := by
  intro s addr v a
  refine ⟨fun h => ?_, fun h => ?_, memWrite_rom, fun h => ⟨?_, ?_⟩, fun h => ⟨memRead_xram h, memWrite_xram h⟩,
    fun h => ⟨?_, memWrite_echo h⟩, fun h => ⟨memRead_unusable h, memWrite_unusable h⟩, fun h => ⟨memRead_joypad h, ?_⟩,
    fun h => ⟨memRead_sound h, memWrite_sound h⟩, fun h => ?_, memWrite_div, memWrite_stat, memWrite_ly, memWrite_dma,
    fun h => memWrite_plain (by omega)⟩
  · rw [memRead_rom (by omega), Cartridge.readRom_fixed h]
  · rw [memRead_rom h.2, Cartridge.readRom_switchable h.1]
  · exact memRead_cell (readCell_eq_some_iff.2 (by omega))
  · exact memWrite_plainCell (plainCell_eq_some_iff.2 (by omega))
  · exact memRead_cell (readCell_eq_some_iff.2 (by omega))
  · rw [memWrite_joypad h, extractLsb'_eq_ofNat]
    rfl
  · exact memRead_cell (readCell_eq_some_iff.2 (by omega))

end Sys2Proof.Proofs
end

section
/-! The joypad register and the buttons (R80, R582). -/

namespace Sys2Proof.Machine

/-- Bit `i` of the nibble of a group is 0 exactly when its button is pressed and the group is selected. -/
theorem joypadGroup_getLsbD (selected b0 b1 b2 b3 : Bool) :
    (joypadGroup selected b0 b1 b2 b3).getLsbD 0 = !(selected && b0) ∧
      (joypadGroup selected b0 b1 b2 b3).getLsbD 1 = !(selected && b1) ∧
      (joypadGroup selected b0 b1 b2 b3).getLsbD 2 = !(selected && b2) ∧
      (joypadGroup selected b0 b1 b2 b3).getLsbD 3 = !(selected && b3) := by
  revert selected b0 b1 b2 b3
  decide

/-- The bits of the joypad register (R80). -/
theorem Joypad.read_getLsbD (j : Joypad) :
    j.read.getLsbD 7 = true ∧ j.read.getLsbD 6 = true ∧ j.read.getLsbD 5 = j.sel.getLsbD 1 ∧
      j.read.getLsbD 4 = j.sel.getLsbD 0 ∧
      j.read.getLsbD 0 = !(!j.sel.getLsbD 0 && j.buttons.right || !j.sel.getLsbD 1 && j.buttons.a) ∧
      j.read.getLsbD 1 = !(!j.sel.getLsbD 0 && j.buttons.left || !j.sel.getLsbD 1 && j.buttons.b) ∧
      j.read.getLsbD 2 = !(!j.sel.getLsbD 0 && j.buttons.up || !j.sel.getLsbD 1 && j.buttons.select) ∧
      j.read.getLsbD 3 = !(!j.sel.getLsbD 0 && j.buttons.down || !j.sel.getLsbD 1 && j.buttons.start) := by
  simp only [Joypad.read, BitVec.getLsbD_append, BitVec.getLsbD_and, joypadGroup_getLsbD, Nat.reduceLT, Nat.reduceSub, ↓reduceIte]
  simp

theorem Buttons.get_set (k : Buttons) (x y : Button) (v : Bool) : (k.set x v).get y = if y = x then v else k.get y := by
  cases x <;> cases y <;> rfl

/-- A press sets the button, and requests interrupt 4 where R337 asks for it. -/
theorem press_eq (x : Button) (s : State) : press x s =
    if s.joypad.buttons.get x = false ∧ s.cfg.joypadIrqOnPress = true then requestInterrupt (s.setButton x true) 4
    else s.setButton x true := by
  simp [press]

end Sys2Proof.Machine

namespace Sys2Proof.Proofs

open Sys2Proof.Machine

/-- Settles O36: the bits of the joypad register, and the two cases of a press. -/
theorem joypadAndButtons : Obligations.JoypadAndButtons := by
  refine ⟨fun s => ?_, fun s v => ?_, fun s x y hs => ?_⟩
  · rw [memRead_joypad rfl]
    exact s.joypad.read_getLsbD
  · rw [memWrite_joypad rfl]
  · have hset (v : Bool) := Buttons.get_set s.joypad.buttons x y v
    rw [press_eq]
    split
    · refine ⟨hset true, hset false, rfl, rfl, rfl, ?_⟩
      exact (Memory.read_write hs _ _ _).trans (if_pos rfl)
    · exact ⟨hset true, hset false, rfl, rfl, rfl, rfl⟩

end Sys2Proof.Proofs
end

section
/-! The writes with effects of their own (R80, R382, R402, R404) and the copy of R84. -/

namespace Sys2Proof.Machine

variable {s t : State} {b : Word}

/-- A program write to STAT keeps bits 2 to 0 (R402). -/
theorem statWrite_getLsbD (old v : Byte) (i : Nat) :
    (statWrite old v).getLsbD i = if i < 3 then old.getLsbD i else v.getLsbD i := by
  rcases Nat.lt_or_ge i 8 with hi | hi
  · interval_cases i <;> simp [statWrite]
  · rw [BitVec.getLsbD_of_ge _ _ hi, if_neg (by omega), BitVec.getLsbD_of_ge _ _ hi]

/-- A register above 0xFF00 reads a cell that no other address reads. -/
theorem readCell_register {c : Word} (hc : 0xFF00 < c.toNat ∧ ¬ (0xFF10 ≤ c.toNat ∧ c.toNat ≤ 0xFF3F)) :
    readCell b = some c.toNat ↔ b = c := by
  rw [readCell_eq_some_iff, ← BitVec.toNat_inj]
  omega

theorem readCell_div : readCell b = some 0xFF04 ↔ b = 0xFF04 := readCell_register (c := 0xFF04) (by decide)
theorem readCell_stat : readCell b = some 0xFF41 ↔ b = 0xFF41 := readCell_register (c := 0xFF41) (by decide)
theorem readCell_dma : readCell b = some 0xFF46 ↔ b = 0xFF46 := readCell_register (c := 0xFF46) (by decide)

/-- The bank controller shows only in the two banked windows (R93 to R95). -/
theorem memRead_withCtl (s : State) (ctl : BankController)
    (h : b.toNat < 0x4000 ∨ 0x8000 ≤ b.toNat ∧ b.toNat < 0xA000 ∨ 0xC000 ≤ b.toNat) :
    memRead { s with cart := { s.cart with ctl := ctl } } b = memRead s b := by
  refine memRead_congr (fun hrom => ?_) (fun hxram => ?_) (fun _ => rfl) (fun _ => rfl) (fun _ _ => rfl)
  · have hfixed : b.toNat < 0x4000 := by omega
    rw [Cartridge.readRom_fixed hfixed, Cartridge.readRom_fixed hfixed]
    rfl
  · omega

/-- The sound unit shows only in its block (R83). -/
theorem memRead_withSnd (s : State) (u : SoundUnit) (h : ¬ (0xFF10 ≤ b.toNat ∧ b.toNat ≤ 0xFF3F)) :
    memRead { s with snd := u } b = memRead s b :=
  memRead_congr (fun _ => rfl) (fun _ => rfl) (fun _ => rfl) (fun hsnd => absurd hsnd h) (fun _ _ => rfl)

/-- The select bits show only at 0xFF00 (R80). -/
theorem memRead_withJoypad (s : State) (j : Joypad) (h : b ≠ 0xFF00) : memRead { s with joypad := j } b = memRead s b :=
  memRead_congr (fun _ => rfl) (fun _ => rfl) (fun hj => absurd (BitVec.eq_of_toNat_eq hj) h) (fun _ => rfl) (fun _ _ => rfl)

/-- The copy of the first `n` bytes (R84). -/
def dmaCopyFirst (s : State) (v : Byte) (n : Nat) : State :=
  (List.range n).foldl (fun t i => t.setMem (0xFE00 + i) (memRead t ((v ++ 0#8) + BitVec.ofNat 16 i))) s

theorem dmaCopy_eq_dmaCopyFirst (s : State) (v : Byte) : dmaCopy s v = dmaCopyFirst s v 160 := rfl

theorem dmaCopyFirst_succ (s : State) (v : Byte) (n : Nat) : dmaCopyFirst s v (n + 1) =
    (dmaCopyFirst s v n).setMem (0xFE00 + n) (memRead (dmaCopyFirst s v n) ((v ++ 0#8) + BitVec.ofNat 16 n)) := by
  simp only [dmaCopyFirst, List.range_succ, List.foldl_append, List.foldl_cons, List.foldl_nil]

/-- The address of byte `k` of a DMA source page, which never wraps (R84). -/
theorem dmaSource_toNat (v : Byte) {k : Nat} (hk : k < 160) : ((v ++ 0#8) + BitVec.ofNat 16 k).toNat = v.toNat * 256 + k := by
  have hv := v.isLt
  have hpage : (v ++ 0#8).toNat = v.toNat * 256 + (0#8).toNat := joinBytes_toNat v 0#8
  rw [BitVec.toNat_add, hpage, BitVec.toNat_ofNat, BitVec.toNat_ofNat]
  omega

/-- What every address reads when the first `n` bytes are copied: no source byte lies among those copied before it. -/
theorem memRead_dmaCopyFirst (hs : s.mem.wf) (v : Byte) {n : Nat} (hn : n ≤ 160) : (dmaCopyFirst s v n).mem.wf ∧
    ∀ b : Word, memRead (dmaCopyFirst s v n) b =
      if 0xFE00 ≤ b.toNat ∧ b.toNat < 0xFE00 + n then memRead s (BitVec.ofNat 16 (v.toNat * 256 + (b.toNat - 0xFE00)))
      else memRead s b := by
  induction n with
  | zero => exact ⟨hs, fun b => (if_neg (by omega)).symm⟩
  | succ n ih =>
    obtain ⟨hwf, hread⟩ := ih (by omega)
    have hsource := dmaSource_toNat v (k := n) (by omega)
    have hbyte : memRead (dmaCopyFirst s v n) ((v ++ 0#8) + BitVec.ofNat 16 n) =
        memRead s (BitVec.ofNat 16 (v.toNat * 256 + n)) := by
      rw [hread, if_neg (by omega), ← hsource, BitVec.ofNat_toNat, BitVec.setWidth_eq]
    rw [dmaCopyFirst_succ]
    refine ⟨Memory.wf_write hwf (by omega) _, fun b => ?_⟩
    have hcell : readCell b = some (0xFE00 + n) ↔ b.toNat = 0xFE00 + n := by rw [readCell_eq_some_iff]; omega
    rw [memRead_setMem hwf, hbyte, hread]
    by_cases hb : b.toNat = 0xFE00 + n
    · rw [if_pos (hcell.2 hb), if_pos (by omega), hb, Nat.add_sub_cancel_left]
    · rw [if_neg (mt hcell.1 hb)]
      exact if_congr (by omega) rfl rfl

end Sys2Proof.Machine

namespace Sys2Proof.Proofs

open Sys2Proof.Machine

/-- Settles O32: each write by the rule of its region, and the reads it can show in. -/
theorem specialStores : Obligations.SpecialStores := by
  intro s addr b v hs t
  refine ⟨?_, ?_, ?_, ?_, fun h hb => ?_, fun h hb => ?_⟩
  · rintro rfl
    have ht : t = { s.setMem 0xFF04 0 with timer := { s.timer with divAcc := 0 } } := memWrite_div rfl
    have hread (c : Word) : memRead t c = if readCell c = some 0xFF04 then 0 else memRead s c :=
      (congrArg (memRead · c) ht).trans (memRead_setMem hs 0xFF04 0 c)
    rw [hread, hread, ht]
    exact ⟨if_pos (readCell_div.2 rfl), rfl, rfl, fun hb => if_neg (mt readCell_div.1 hb)⟩
  · rintro rfl
    have ht : t = s.setMem 0xFF41 (statWrite (s.mem.read 0xFF41) v) := memWrite_stat rfl
    have hcell : readCell 0xFF41 = some 0xFF41 := readCell_stat.2 rfl
    rw [ht, memRead_setMem hs, if_pos hcell, memRead_cell hcell, memRead_setMem hs]
    refine ⟨fun i hi => ?_, fun i hi => ?_, fun hb => if_neg (mt readCell_stat.1 hb)⟩
    · rw [statWrite_getLsbD, if_pos hi]
    · rw [statWrite_getLsbD, if_neg (by omega)]
  · rintro rfl
    have ht : t = { s with joypad := { s.joypad with sel := v.extractLsb' 4 2 } } := memWrite_joypad rfl
    rw [ht, memRead_joypad rfl]
    obtain ⟨-, -, h5, h4, -⟩ := Joypad.read_getLsbD { s.joypad with sel := v.extractLsb' 4 2 }
    exact ⟨h4.trans (by simp), h5.trans (by simp), memRead_withJoypad s _⟩
  · rintro (rfl | h)
    · exact memWrite_ly rfl
    · exact memWrite_unusable h
  · rw [show t = _ from memWrite_rom h]
    exact memRead_withCtl s _ hb
  · rw [show t = _ from memWrite_sound h]
    exact memRead_withSnd s _ hb

/-- Settles O33: the copy byte by byte, and the frame of a store to its register. -/
theorem dmaCopies : Obligations.DmaCopies := by
  intro s v hs before t
  have ht : t = dmaCopy before v := memWrite_dma rfl
  obtain ⟨-, hread⟩ := memRead_dmaCopyFirst (s := before) (Memory.wf_write hs (by omega) v) v le_rfl
  rw [← dmaCopy_eq_dmaCopyFirst, ← ht] at hread
  refine ⟨fun k hk => ?_, ?_, fun b hb hoam => ?_, ?_⟩
  · have hk' : (BitVec.ofNat 16 (0xFE00 + k)).toNat = 0xFE00 + k := by rw [BitVec.toNat_ofNat]; omega
    rw [hread, hk', if_pos (by omega), Nat.add_sub_cancel_left]
  · rw [hread, if_neg (by decide), memRead_setMem hs, if_pos (readCell_dma.2 rfl)]
  · rw [hread, if_neg hoam, memRead_setMem hs, if_neg (mt readCell_dma.1 hb)]
  · obtain ⟨m, hm⟩ := dmaCopy_eq before v
    rw [ht, hm]
    rfl

end Sys2Proof.Proofs
end

section
/-! The registers of the bank controllers in numbers (R96 to R99), and what the two banked windows show (R94, R95). -/

namespace Sys2Proof.Machine

open Sys2Proof.Claims

/-- Two fields side by side as a number. -/
theorem append_toNat {n m : Nat} (x : BitVec n) (y : BitVec m) : (x ++ y).toNat = x.toNat * 2 ^ m + y.toNat := by
  rw [BitVec.toNat_append, ← Nat.shiftLeft_add_eq_or_of_lt y.isLt, Nat.shiftLeft_eq]

theorem ramEnableOf_eq (v : Byte) : ramEnableOf v = decide (v.toNat % 16 = 10) := by
  rw [ramEnableOf, beq_eq_decide, decide_eq_decide, ← BitVec.toNat_inj, BitVec.toNat_and]
  exact iff_of_eq (congrArg (· = 10) (Nat.and_two_pow_sub_one_eq_mod v.toNat 4))

theorem getLsbD_zero_eq (v : Byte) : v.getLsbD 0 = decide (v.toNat % 2 = 1) := Nat.testBit_zero _

/-- A bank register whose field is 0 holds 1 (R97, R98). -/
theorem zeroToOne_extractLsb' (v : Byte) (n : Nat) :
    zeroToOne (v.extractLsb' 0 n) = if v.toNat % 2 ^ n = 0 then 1 else BitVec.ofNat n v.toNat := by
  rw [zeroToOne, extractLsb'_eq_ofNat, pow_zero, Nat.div_one]
  refine if_congr ?_ rfl rfl
  simp [← BitVec.toNat_inj]

variable {a : Nat} {v : Byte}

/-- R97. -/
theorem BankController.write_mbc1 (en : Bool) (lo : BitVec 5) (up : BitVec 2) (m : Bool) :
    (mbc1 en lo up m).write a v =
      if a < 0x2000 then .mbc1 (decide (v.toNat % 16 = 10)) lo up m
      else if a < 0x4000 then .mbc1 en (if v.toNat % 32 = 0 then 1 else BitVec.ofNat 5 v.toNat) up m
      else if a < 0x6000 then .mbc1 en lo (BitVec.ofNat 2 v.toNat) m
      else .mbc1 en lo up (decide (v.toNat % 2 = 1)) := by
  rw [write, ramEnableOf_eq, zeroToOne_extractLsb', extractLsb'_eq_ofNat, getLsbD_zero_eq, pow_zero, Nat.div_one]
  rfl

/-- R98. -/
theorem BankController.write_mbc3 (en : Bool) (bank : BitVec 7) (sel : BitVec 4) :
    (mbc3 en bank sel).write a v =
      if a < 0x2000 then .mbc3 (decide (v.toNat % 16 = 10)) bank sel
      else if a < 0x4000 then .mbc3 en (if v.toNat % 128 = 0 then 1 else BitVec.ofNat 7 v.toNat) sel
      else if a < 0x6000 then .mbc3 en bank (BitVec.ofNat 4 v.toNat)
      else .mbc3 en bank sel := by
  rw [write, ramEnableOf_eq, zeroToOne_extractLsb', extractLsb'_eq_ofNat, pow_zero, Nat.div_one]
  rfl

/-- The two parts of the ROM bank of mbc5 (R99). -/
theorem mbc5_bank_parts (bank : BitVec 9) (v : Byte) :
    bank.extractLsb' 8 1 ++ v = BitVec.ofNat 9 (bank.toNat / 256 * 256 + v.toNat) ∧
      v.extractLsb' 0 1 ++ bank.extractLsb' 0 8 = BitVec.ofNat 9 (v.toNat % 2 * 256 + bank.toNat % 256) := by
  have hbank := bank.isLt
  have hv := v.isLt
  constructor <;> apply BitVec.eq_of_toNat_eq <;>
    simp only [append_toNat, extractLsb'_eq_ofNat, BitVec.toNat_ofNat] <;> omega

/-- R99. -/
theorem BankController.write_mbc5 (en : Bool) (bank : BitVec 9) (ram : BitVec 4) :
    (mbc5 en bank ram).write a v =
      if a < 0x2000 then .mbc5 (decide (v.toNat % 16 = 10)) bank ram
      else if a < 0x3000 then .mbc5 en (BitVec.ofNat 9 (bank.toNat / 256 * 256 + v.toNat)) ram
      else if a < 0x4000 then .mbc5 en (BitVec.ofNat 9 (v.toNat % 2 * 256 + bank.toNat % 256)) ram
      else if a < 0x6000 then .mbc5 en bank (BitVec.ofNat 4 v.toNat)
      else .mbc5 en bank ram := by
  obtain ⟨hlow, hhigh⟩ := mbc5_bank_parts bank v
  rw [write, ramEnableOf_eq, hlow, hhigh, extractLsb'_eq_ofNat v 0 4, pow_zero, Nat.div_one]

/-- The switchable window shows the selected bank (R94). -/
theorem memRead_switchable (s : State) {k : Nat} (hk : k < 0x4000) :
    memRead s (BitVec.ofNat 16 (0x4000 + k)) = s.cart.romByte (s.cart.ctl.romBank * 0x4000 + k) := by
  have haddr : (BitVec.ofNat 16 (0x4000 + k)).toNat = 0x4000 + k := by rw [BitVec.toNat_ofNat]; omega
  rw [memRead_rom (by omega), haddr, Cartridge.readRom_switchable (by omega), Nat.add_sub_cancel_left]

/-- The number in a bank register whose field is `v`, 0 counting as 1. -/
theorem toNat_zeroToOne {n : Nat} (hn : n ≠ 0) (v : Byte) : (zeroToOne (v.extractLsb' 0 n)).toNat =
    if v.toNat % 2 ^ n = 0 then 1 else v.toNat % 2 ^ n := by
  rw [zeroToOne_extractLsb']
  split
  · exact Nat.mod_eq_of_lt (Nat.one_lt_two_pow hn)
  · exact BitVec.toNat_ofNat ..

theorem BankController.romBank_write_mbc1 (ha : 0x2000 ≤ a ∧ a < 0x4000) (en : Bool) (lo : BitVec 5) (up : BitVec 2) (m : Bool) :
    ((mbc1 en lo up m).write a v).romBank =
      (if m then 0 else 32 * up.toNat) + if v.toNat % 32 = 0 then 1 else v.toNat % 32 := by
  rw [write, if_neg (by omega), if_pos ha.2, romBank, append_toNat, toNat_zeroToOne (by decide)]
  cases m
  · exact congrArg (· + _) (mul_comm ..)
  · exact (Nat.zero_add _).symm

theorem BankController.romBank_write_mbc3 (ha : 0x2000 ≤ a ∧ a < 0x4000) (en : Bool) (bank : BitVec 7) (sel : BitVec 4) :
    ((mbc3 en bank sel).write a v).romBank = if v.toNat % 128 = 0 then 1 else v.toNat % 128 := by
  rw [write, if_neg (by omega), if_pos ha.2]
  exact toNat_zeroToOne (by decide) v

theorem BankController.romBank_write_mbc5 (ha : 0x2000 ≤ a ∧ a < 0x4000) (en : Bool) (bank : BitVec 9) (ram : BitVec 4) :
    ((mbc5 en bank ram).write a v).romBank =
      if a < 0x3000 then bank.toNat / 256 * 256 + v.toNat else v.toNat % 2 * 256 + bank.toNat % 256 := by
  have hbank := bank.isLt
  have hv := v.isLt
  rw [write_mbc5, if_neg (by omega)]
  split
  · exact Nat.mod_eq_of_lt (by omega)
  · rw [if_pos ha.2]
    exact Nat.mod_eq_of_lt (by omega)

end Sys2Proof.Machine

namespace Sys2Proof.Proofs

open Sys2Proof.Machine

/-- Settles O34: the register writes of each controller, and the bank that the switchable window then shows. -/
theorem bankSwitching : Obligations.BankSwitching := by
  refine ⟨fun s addr v h => ?_, fun s addr v k hlo hhi hk => ?_⟩
  · have ht : memWrite s addr v = { s with cart := s.cart.writeRom addr.toNat v } := memWrite_rom h
    rw [ht]
    refine ⟨rfl, fun hc => ?_, fun en lo up m hc => ?_, fun en bank sel hc => ?_, fun en bank ram hc => ?_⟩ <;>
      rw [Cartridge.writeRom, hc]
    · rfl
    · exact BankController.write_mbc1 ..
    · exact BankController.write_mbc3 ..
    · exact BankController.write_mbc5 ..
  · have ha : 0x2000 ≤ addr.toNat ∧ addr.toNat < 0x4000 := ⟨hlo, hhi⟩
    dsimp only
    rw [memRead_switchable _ hk, memWrite_rom (by omega)]
    have shown (n : Nat) (h : (s.cart.ctl.write addr.toNat v).romBank = n) :
        (s.cart.writeRom addr.toNat v).romByte ((s.cart.writeRom addr.toNat v).ctl.romBank * 0x4000 + k) =
          s.cart.romByte (n * 0x4000 + k) := h ▸ rfl
    refine ⟨fun hc => shown 1 ?_, fun en lo up hc => shown _ ?_, fun en lo up hc => shown _ ?_, fun en bank sel hc => shown _ ?_,
      fun en bank ram hc => shown _ ?_⟩ <;> rw [hc]
    · rfl
    · rw [BankController.romBank_write_mbc1 ha]
      rfl
    · rw [BankController.romBank_write_mbc1 ha]
      exact Nat.zero_add _
    · exact BankController.romBank_write_mbc3 ha ..
    · exact BankController.romBank_write_mbc5 ha ..

end Sys2Proof.Proofs
end

section
/-! The external RAM window (R92, R95, R97 to R99): what it reaches, and what a read and a write of it do in each case. -/

namespace Sys2Proof.Machine

open Sys2Proof.Claims

variable {c : Cartridge} {ctl : BankController} {a n : Nat} {v : Byte}

/-- The window reaches a bank exactly when RAM is enabled and the bank selected (R95). -/
theorem ramTarget_eq_bank_iff : ctl.ramTarget = .bank n ↔ ramBank ctl = some n := by
  cases ctl with
  | flat => simp [ramBank, BankController.ramTarget]
  | mbc1 en lo up m => cases en <;> cases m <;> simp [ramBank, BankController.ramTarget]
  | mbc3 en bank sel =>
    cases en
    · simp [ramBank, BankController.ramTarget]
    · simp only [ramBank, BankController.ramTarget, if_true]
      split
      · simp
      · split <;> simp
  | mbc5 en bank ram => cases en <;> simp [ramBank, BankController.ramTarget]

/-- The window reaches a clock register (R98). -/
theorem ramTarget_eq_clock_iff :
    ctl.ramTarget = .clock ↔ ∃ bank sel, ctl = .mbc3 true bank sel ∧ 8 ≤ sel.toNat ∧ sel.toNat ≤ 12 := by
  cases ctl with
  | flat => simp [BankController.ramTarget]
  | mbc1 en lo up m => cases en <;> simp [BankController.ramTarget]
  | mbc3 en bank sel =>
    cases en
    · simp [BankController.ramTarget]
    · simp only [BankController.ramTarget, if_true, BankController.mbc3.injEq, true_and]
      split_ifs <;> simp <;> omega
  | mbc5 en bank ram => cases en <;> simp [BankController.ramTarget]

theorem Cartridge.readRam_bank (h : ramBank c.ctl = some n) :
    c.readRam a = if ramOffset n a < c.xramSize then Cells.read initZero c.xram (ramOffset n a) else 0xFF := by
  rw [readRam, ramTarget_eq_bank_iff.2 h]

theorem Cartridge.writeRam_bank (h : ramBank c.ctl = some n) :
    c.writeRam a v =
      if ramOffset n a < c.xramSize then { c with xram := Cells.write initZero c.xram (ramOffset n a) v } else c := by
  rw [writeRam, ramTarget_eq_bank_iff.2 h]

theorem Cartridge.readRam_clock (h : c.ctl.ramTarget = .clock) : c.readRam a = 0x00 := by rw [readRam, h]

theorem Cartridge.readRam_closed (h : c.ctl.ramTarget = .closed) : c.readRam a = 0xFF := by rw [readRam, h]

/-- Without a bank the window is closed or shows a clock register (R95, R98). -/
theorem ramBank_eq_none_iff : ramBank ctl = none ↔ ctl.ramTarget = .closed ∨ ctl.ramTarget = .clock := by
  rw [Option.eq_none_iff_forall_ne_some]
  simp only [ne_eq, ← ramTarget_eq_bank_iff]
  cases ctl.ramTarget <;> simp

theorem Cartridge.writeRam_noBank (h : ramBank c.ctl = none) : c.writeRam a v = c := by
  obtain h | h := ramBank_eq_none_iff.1 h <;> rw [writeRam, h]

/-- A store in the selected bank shows at its own offset only (R95). -/
theorem Cartridge.readRam_writeRam {b : Nat} (ha : 0xA000 ≤ a) (hb : 0xA000 ≤ b)
    (hc : Cells.Wf initZero c.xramSize c.xram) (hbank : ramBank c.ctl = some n) (hoff : ramOffset n a < c.xramSize) :
    (c.writeRam a v).readRam b = if b = a then v else c.readRam b := by
  have hctl : ramBank (c.writeRam a v).ctl = some n := by rw [writeRam_bank hbank, if_pos hoff]; exact hbank
  rw [readRam_bank hctl, readRam_bank hbank, writeRam_bank hbank, if_pos hoff]
  dsimp only
  rw [Cells.read_write _ _ _ _ hc.1]
  by_cases h : b = a
  · rw [h, if_pos hoff, if_pos rfl, if_pos rfl]
  · have hne : ramOffset n a ≠ ramOffset n b := by unfold ramOffset; omega
    rw [if_neg h, if_neg hne]

/-- The ROM windows do not look at the external RAM. -/
theorem Cartridge.readRom_writeRam (c : Cartridge) (a b : Nat) (v : Byte) : (c.writeRam a v).readRom b = c.readRom b := by
  unfold writeRam
  split
  · rfl
  · rfl
  · split <;> rfl

/-- A byte stored in the external RAM shows at its own address only (R95). -/
theorem memRead_writeRam {s : State} {addr : Word} (haddr : 0xA000 ≤ addr.toNat ∧ addr.toNat < 0xC000)
    (hs : Cells.Wf initZero s.cart.xramSize s.cart.xram) (hbank : ramBank s.cart.ctl = some n)
    (hoff : ramOffset n addr.toNat < s.cart.xramSize) (b : Word) :
    memRead (memWrite s addr v) b = if b = addr then v else memRead s b := by
  have hread (c : Nat) (hc : 0xA000 ≤ c) := Cartridge.readRam_writeRam (v := v) haddr.1 hc hs hbank hoff
  rw [memWrite_xram haddr]
  split
  · rename_i h
    rw [h, memRead_xram haddr]
    exact (hread _ haddr.1).trans (if_pos rfl)
  · rename_i h
    refine memRead_congr (fun _ => Cartridge.readRom_writeRam ..) (fun hb => ?_) (fun _ => rfl) (fun _ => rfl) (fun _ _ => rfl)
    exact (hread _ hb.1).trans (if_neg (mt BitVec.eq_of_toNat_eq h))

/-- A write below 0x2000 whose low nibble is not 0xA closes the window (R97 to R99). -/
theorem BankController.ramTarget_write_disable (ha : a < 0x2000) (hv : v.toNat % 16 ≠ 10) :
    (ctl.write a v).ramTarget = .closed := by
  cases ctl with
  | flat => rfl
  | mbc1 en lo up m => rw [write_mbc1, if_pos ha, decide_eq_false hv]; rfl
  | mbc3 en bank sel => rw [write_mbc3, if_pos ha, decide_eq_false hv]; rfl
  | mbc5 en bank ram => rw [write_mbc5, if_pos ha, decide_eq_false hv]; rfl

theorem ramBank_mbc1 (lo : BitVec 5) (up : BitVec 2) (m : Bool) :
    ramBank (.mbc1 true lo up m) = some (if m then up.toNat else 0) := by
  cases m <;> rfl

/-- With the low nibble 0xA, mbc1 opens the window on the bank of its mode (R97). -/
theorem ramBank_enable_mbc1 (ha : a < 0x2000) (hv : v.toNat % 16 = 10) (en : Bool) (lo : BitVec 5) (up : BitVec 2) (m : Bool) :
    ramBank ((BankController.mbc1 en lo up m).write a v) = some (if m then up.toNat else 0) := by
  rw [BankController.write_mbc1, if_pos ha, decide_eq_true hv, ramBank_mbc1]

/-- With the low nibble 0xA, mbc3 opens the window on the bank of its selector, if it is one (R98). -/
theorem ramBank_enable_mbc3 (ha : a < 0x2000) (hv : v.toNat % 16 = 10) (en : Bool) (bank : BitVec 7) (sel : BitVec 4) :
    ramBank ((BankController.mbc3 en bank sel).write a v) = if sel.toNat ≤ 7 then some sel.toNat else none := by
  rw [BankController.write_mbc3, if_pos ha, decide_eq_true hv]
  rfl

/-- With the low nibble 0xA, mbc5 opens the window on its RAM bank (R99). -/
theorem ramBank_enable_mbc5 (ha : a < 0x2000) (hv : v.toNat % 16 = 10) (en : Bool) (bank : BitVec 9) (ram : BitVec 4) :
    ramBank ((BankController.mbc5 en bank ram).write a v) = some ram.toNat := by
  rw [BankController.write_mbc5, if_pos ha, decide_eq_true hv]
  rfl

/-- The mode bit of mbc1 selects the bank at once (R97). -/
theorem ramBank_mode_mbc1 (ha : 0x6000 ≤ a) (lo : BitVec 5) (up : BitVec 2) (m : Bool) :
    ramBank ((BankController.mbc1 true lo up m).write a v) = some (if v.toNat % 2 = 1 then up.toNat else 0) := by
  rw [BankController.write_mbc1, if_neg (by omega), if_neg (by omega), if_neg (by omega), ramBank_mbc1]
  simp only [decide_eq_true_eq]

/-- The selector of mbc3 selects the bank at once (R98). -/
theorem ramBank_select_mbc3 (ha : 0x4000 ≤ a ∧ a < 0x6000) (bank : BitVec 7) (sel : BitVec 4) :
    ramBank ((BankController.mbc3 true bank sel).write a v) = if v.toNat % 16 ≤ 7 then some (v.toNat % 16) else none := by
  rw [BankController.write_mbc3, if_neg (by omega), if_neg (by omega), if_pos ha.2]
  rfl

/-- The RAM bank of mbc5 is selected at once (R99). -/
theorem ramBank_select_mbc5 (ha : 0x4000 ≤ a ∧ a < 0x6000) (bank : BitVec 9) (ram : BitVec 4) :
    ramBank ((BankController.mbc5 true bank ram).write a v) = some (v.toNat % 16) := by
  rw [BankController.write_mbc5, if_neg (by omega), if_neg (by omega), if_neg (by omega), if_pos ha.2]
  rfl

theorem memWrite_ctl {w : Word} (hw : w.toNat < 0x8000) (s : State) : (memWrite s w v).cart.ctl = s.cart.ctl.write w.toNat v := by
  rw [memWrite_rom hw]
  rfl

end Sys2Proof.Machine

namespace Sys2Proof.Proofs

open Sys2Proof.Machine Sys2Proof.Claims

/-- Settles O35: the window by what it reaches, and what it reaches by the registers a write leaves. -/
theorem externalRam : Obligations.ExternalRam := by
  intro s addr b v hlo hhi hs off
  have haddr : 0xA000 ≤ addr.toNat ∧ addr.toNat < 0xC000 := ⟨hlo, hhi⟩
  refine ⟨fun n hbank hoff => ?_, fun n hbank hoff => ?_, fun hbank => ⟨?_, fun hclock => ?_, fun bank sel hc h8 h12 => ?_⟩, ?_⟩
  · have hread := memRead_writeRam (v := v) haddr hs hbank hoff
    exact ⟨(hread addr).trans (if_pos rfl), fun hb => (hread b).trans (if_neg hb)⟩
  · have hout : ¬ ramOffset n addr.toNat < s.cart.xramSize := not_lt.2 hoff
    rw [memRead_xram haddr, memWrite_xram haddr, Cartridge.readRam_bank hbank, Cartridge.writeRam_bank hbank, if_neg hout,
      if_neg hout]
    exact ⟨rfl, rfl⟩
  · rw [memWrite_xram haddr, Cartridge.writeRam_noBank hbank]
  · have hclosed : s.cart.ctl.ramTarget = .closed := (ramBank_eq_none_iff.1 hbank).resolve_right fun h => by
      obtain ⟨bank, sel, hc, hsel⟩ := ramTarget_eq_clock_iff.1 h
      exact hclock bank sel hc hsel
    rw [memRead_xram haddr, Cartridge.readRam_closed hclosed]
  · rw [memRead_xram haddr, Cartridge.readRam_clock (ramTarget_eq_clock_iff.2 ⟨bank, sel, hc, h8, h12⟩)]
  · intro w x
    dsimp only
    refine ⟨fun hw hx => ?_, fun hw hx => ?_, fun hw hw' lo up m hc => ?_, fun hw hw' => ?_⟩
    · have hclosed : (memWrite s w x).cart.ctl.ramTarget = .closed := by
        rw [memWrite_ctl (by omega), BankController.ramTarget_write_disable hw hx]
      have hbank := ramBank_eq_none_iff.2 (.inl hclosed)
      rw [memRead_xram haddr, memWrite_xram haddr, Cartridge.readRam_closed hclosed, Cartridge.writeRam_noBank hbank]
      exact ⟨hbank, rfl, rfl⟩
    · rw [memWrite_ctl (by omega)]
      refine ⟨fun en lo up hc => ?_, fun en lo up hc => ?_, fun en bank sel hc => ?_, fun en bank ram hc => ?_⟩ <;> rw [hc]
      · exact ramBank_enable_mbc1 hw hx ..
      · exact ramBank_enable_mbc1 hw hx ..
      · exact ramBank_enable_mbc3 hw hx ..
      · exact ramBank_enable_mbc5 hw hx ..
    · rw [memWrite_ctl hw', hc]
      exact ramBank_mode_mbc1 hw ..
    · rw [memWrite_ctl (by omega)]
      refine ⟨fun bank sel hc => ?_, fun bank ram hc => ?_⟩ <;> rw [hc]
      exacts [ramBank_select_mbc3 ⟨hw, hw'⟩ .., ramBank_select_mbc5 ⟨hw, hw'⟩ ..]

end Sys2Proof.Proofs
end

section
/-! What is fixed for the run: the image and its length, the RAM size, the kind of the bank controller, the parameters and the
buttons (R35, R36, R90). -/

namespace Sys2Proof.Machine

/-- The parts of the state that no step changes. -/
structure SameFixed (s t : State) : Prop where
  rom : t.cart.rom = s.cart.rom
  romSize : t.cart.romSize = s.cart.romSize
  xramSize : t.cart.xramSize = s.cart.xramSize
  kind : t.cart.ctl.kind = s.cart.ctl.kind
  cfg : t.cfg = s.cfg
  buttons : t.joypad.buttons = s.joypad.buttons

variable {s t : State}

/-- A register write never changes the kind (R90). -/
@[simp] theorem BankController.kind_write (ctl : BankController) (a : Nat) (v : Byte) : (ctl.write a v).kind = ctl.kind := by
  cases ctl with
  | flat => rfl
  | mbc1 en lo up m | mbc3 en bank sel | mbc5 en bank ram => rw [write]; split_ifs <;> rfl

/-- A write of the external RAM window changes the external RAM alone. -/
theorem Cartridge.writeRam_eq (c : Cartridge) (a : Nat) (v : Byte) : ∃ m, c.writeRam a v = { c with xram := m } := by
  unfold writeRam
  split
  · exact ⟨_, rfl⟩
  · exact ⟨_, rfl⟩
  · split <;> exact ⟨_, rfl⟩

theorem SameFixed.congr {u : State} (h : SameFixed s t) (hcart : u.cart = t.cart) (hcfg : u.cfg = t.cfg)
    (hbuttons : u.joypad.buttons = t.joypad.buttons) : SameFixed s u where
  rom := by rw [hcart, h.rom]
  romSize := by rw [hcart, h.romSize]
  xramSize := by rw [hcart, h.xramSize]
  kind := by rw [hcart, h.kind]
  cfg := by rw [hcfg, h.cfg]
  buttons := by rw [hbuttons, h.buttons]

/-- Of a byte write, only one to the cartridge port could touch a fixed part, and it writes a register or the external RAM. -/
theorem memWrite_sameFixed (hst : SameFixed s t) (addr : Word) (v : Byte) : SameFixed s (memWrite t addr v) := by
  rcases memWrite_cases t addr v with ⟨_, h⟩ | ⟨a, _, _, h⟩ | ⟨_, _, _, h⟩ | h | h | h | ⟨_, _, _, h⟩ | h | h <;> rw [h]
  · exact ⟨hst.rom, hst.romSize, hst.xramSize, (BankController.kind_write ..).trans hst.kind, hst.cfg, hst.buttons⟩
  · obtain ⟨m, hm⟩ := t.cart.writeRam_eq a v
    rw [hm]
    exact ⟨hst.rom, hst.romSize, hst.xramSize, hst.kind, hst.cfg, hst.buttons⟩
  · exact hst.congr rfl rfl rfl
  · exact hst.congr rfl rfl rfl
  · exact hst.congr rfl rfl rfl
  · obtain ⟨m, hm⟩ := dmaCopy_eq (t.setMem 0xFF46 v) v
    rw [hm]
    exact hst.congr rfl rfl rfl
  · exact hst.congr rfl rfl rfl
  · exact hst.congr rfl rfl rfl
  · exact hst

theorem sameFixed_stable (s : State) : Stable (SameFixed s) where
  cpu _ _ h := h.congr rfl rfl rfl
  write _ a v h := memWrite_sameFixed h a v
  cycles _ _ h := h.congr rfl rfl rfl

theorem step_sameFixed : Keeps (SameFixed s) (step s) := by
  intro t ht
  obtain ⟨u, hu, rfl⟩ := step_next ht
  have h : SameFixed s u :=
    executeStep_keeps (sameFixed_stable s) (fun _ _ h => h.congr rfl rfl rfl) ⟨rfl, rfl, rfl, rfl, rfl, rfl⟩ u hu
  obtain ⟨-, hjoypad, hcart, hcfg, -⟩ := advanceEngines_keeps u u.out.cycles
  exact h.congr hcart hcfg (by rw [hjoypad])

end Sys2Proof.Machine

namespace Sys2Proof.Proofs

open Sys2Proof.Machine

/-- Settles O55: neither a byte write nor an engine touches the fixed parts; press and release set a button and IF. -/
theorem fixedForTheRun : Obligations.FixedForTheRun := by
  refine ⟨fun s t ht => ?_, fun s x => ?_⟩
  · obtain ⟨hrom, hromSize, hxramSize, hkind, hcfg, hbuttons⟩ := step_sameFixed t ht
    exact ⟨hrom, hromSize, hxramSize, hkind, hcfg, hbuttons⟩
  · rw [press_eq]
    split <;> exact ⟨rfl, rfl, rfl, rfl⟩

end Sys2Proof.Proofs
end

section
/-! The byte stores of an instruction by its shape (R67, R180), and that they are all it does outside the Processor. -/

namespace Sys2Proof.Machine

open Sys2Proof.Claims

variable {s t : State}

/-- A list of byte stores, made in order. -/
def storeAll (s : State) (l : List (Word × Byte)) : State := l.foldl (fun u p => memWrite u p.1 p.2) s

@[simp] theorem storeAll_cons (s : State) (p : Word × Byte) (l : List (Word × Byte)) :
    storeAll s (p :: l) = storeAll (memWrite s p.1 p.2) l := rfl

@[simp] theorem storeAll_cpu (s : State) (l : List (Word × Byte)) : (storeAll s l).cpu = s.cpu := by
  induction l generalizing s with
  | nil => rfl
  | cons p l ih => rw [storeAll_cons, ih, memWrite_cpu]

@[simp] theorem storeAll_out (s : State) (l : List (Word × Byte)) : (storeAll s l).out = s.out := by
  induction l generalizing s with
  | nil => rfl
  | cons p l ih => rw [storeAll_cons, ih, memWrite_out]

/-- The byte stores of a shape. -/
def Op.stores (s : State) : Op → List (Word × Byte)
  | .store a src _ => [(a.of s, src.of s)]
  | .storeMove _ => [(s.hl, s.cpu.a)]
  | .storeSp nn => [(nn, lo8 s.cpu.sp), (nn + 1, hi8 s.cpu.sp)]
  | .push p => pushed s (s.cpu.stackPair p)
  | .inc none => [(s.hl, memRead s s.hl + 1)]
  | .dec none => [(s.hl, memRead s s.hl - 1)]
  | .call none _ | .rst _ => pushed s s.cpu.pc
  | .call (some cc) _ => if cc.holds s.cpu.flags then pushed s s.cpu.pc else []
  | .shift op none => [(s.hl, (shift8 op (memRead s s.hl) s.cpu.flags.c).1)]
  | .resetBit b none => [(s.hl, memRead s s.hl &&& ~~~(1#8 <<< b.val))]
  | .setBit b none => [(s.hl, memRead s s.hl ||| (1#8 <<< b.val))]
  | _ => []

/-- `t` is what the stores leave of `s`, the Processor and the cycle count aside. -/
def AfterStores (s : State) (l : List (Word × Byte)) (t : State) : Prop :=
  { t with cpu := s.cpu, out := s.out } = storeAll s l ∧ t.out = { s.out with cycles := t.out.cycles }

theorem afterStores_complete (s : State) (l : List (Word × Byte)) (p : Processor) (n : Nat) :
    Keeps (AfterStores s l) (complete { storeAll s l with cpu := p } n) := by
  refine .complete ⟨?_, ?_⟩
  · show { storeAll s l with cpu := s.cpu, out := s.out } = storeAll s l
    rw [← storeAll_cpu s l, ← storeAll_out s l]
  · show { (storeAll s l).out with cycles := n } = { s.out with cycles := n }
    rw [storeAll_out]

/-- A shape that completes does its stores, and nothing else outside the Processor. -/
theorem runOp_afterStores (s : State) (o : Op) : Keeps (AfterStores s (o.stores s)) (runOp s o) := by
  have regs (p : Processor) (n : Nat) : Keeps (AfterStores s []) (complete { s with cpu := p } n) := afterStores_complete s [] p n
  have one (a : Word) (v : Byte) (p : Processor) (n : Nat) :
      Keeps (AfterStores s [(a, v)]) (complete { memWrite s a v with cpu := p } n) := afterStores_complete s [(a, v)] p n
  have pushes (w : Word) (p : Processor) (n : Nat) :
      Keeps (AfterStores s (pushed s w)) (complete { push16 s w with cpu := p } n) := by
    rw [push16_eq]
    exact afterStores_complete s (pushed s w) p n
  cases o with
  | nop => exact regs _ _
  | undefined op => rintro t ⟨⟩
  | stop => exact execStop_keeps (n := 0) (regs _ _ _ rfl)
  | store a src cost => exact one _ _ _ _
  | storeMove delta => exact one _ _ _ _
  | storeSp nn => exact afterStores_complete s [_, _] _ _
  | push p => exact pushes _ _ _
  | inc x | dec x | shift op x | resetBit b x | setBit b x => cases x; exacts [one _ _ _ _, regs _ _]
  | testBit b x => cases x; exacts [regs _ _, regs _ _]
  | jump cc nn | jumpRel cc nn | ret cc => cases cc; exacts [regs _ _, .ite (regs _ _) (regs _ _)]
  | rst target => exact pushes _ _ _
  | call cc nn =>
    cases cc with
    | none => exact pushes _ _ _
    | some cc =>
      simp only [Op.stores, runOp]
      split
      exacts [pushes _ _ _, regs _ _]
  | _ => exact regs _ _

/-- The number of a rotate, shift or SWAP (R129). -/
def ShiftOp.number : ShiftOp → Nat
  | .rlc => 0
  | .rrc => 1
  | .rl => 2
  | .rr => 3
  | .sla => 4
  | .sra => 5
  | .swap => 6
  | .srl => 7

/-- A bit of a byte as a number. -/
theorem getLsbD_toNat (v : Byte) (i : Nat) : (v.getLsbD i).toNat = v.toNat / 2 ^ i % 2 := Nat.toNat_testBit ..

/-- An arithmetic shift right by one repeats the top bit (R309). -/
theorem sshiftRight_one_toNat (v : Byte) : (v.sshiftRight 1).toNat = v.toNat / 2 + v.toNat / 128 * 128 := by
  revert v
  decide

/-- The value that a rotate, shift or SWAP writes, in numbers (R301 to R316). -/
theorem shift8_eq_shifted (op : ShiftOp) (v : Byte) (carry : Bool) :
    (shift8 op v carry).1 = BitVec.ofNat 8 (shifted op.number v.toNat carry.toNat) := by
  have hv := v.isLt
  have hcarry := carry.toNat_le
  have htop : v.toNat / 128 % 2 = v.toNat / 128 := by omega
  have hhigh : v.toNat / 16 % 16 = v.toNat / 16 := by omega
  have hrest : v.toNat / 2 % 128 = v.toNat / 2 := by omega
  apply BitVec.eq_of_toNat_eq
  cases op <;>
    simp only [shift8, shifted, ShiftOp.number, append_toNat, extractLsb'_eq_ofNat, BitVec.toNat_ofNat, BitVec.toNat_ofBool,
      getLsbD_toNat, sshiftRight_one_toNat, BitVec.toNat_shiftLeft, BitVec.toNat_ushiftRight, Nat.shiftLeft_eq,
      Nat.shiftRight_eq_div_pow, Nat.reducePow, Nat.div_one, htop, hhigh, hrest] <;>
    omega

theorem Op.stores_shift (op : ShiftOp) (s : State) : (Op.shift op none).stores s =
    [(s.cpu.h ++ s.cpu.l, BitVec.ofNat 8 (shifted op.number (memRead s (s.cpu.h ++ s.cpu.l)).toNat (carry s)))] :=
  congrArg (fun r => [(s.hl, r)]) (shift8_eq_shifted op _ _)

/-- The stores of an instruction are those of its shape. -/
theorem stores_eq (s : State) {i : Instr} (hi : i.wellFormed = true) : stores s i = (shape i).stores s := by
  cases i
  case prefixCb => cases hi
  case rlcMemHl => exact (Op.stores_shift .rlc s).symm
  case rrcMemHl => exact (Op.stores_shift .rrc s).symm
  case rlMemHl => exact (Op.stores_shift .rl s).symm
  case rrMemHl => exact (Op.stores_shift .rr s).symm
  case slaMemHl => exact (Op.stores_shift .sla s).symm
  case sraMemHl => exact (Op.stores_shift .sra s).symm
  case swapMemHl => exact (Op.stores_shift .swap s).symm
  case srlMemHl => exact (Op.stores_shift .srl s).symm
  all_goals rfl

/-- Stores to plain cells show at no address of another cell (R69, R77). -/
theorem memRead_storeAll (hs : s.mem.wf) {b : Word} {l : List (Word × Byte)}
    (hl : ∀ p ∈ l, ∃ a, plainCell p.1 = some a ∧ plainCell b ≠ some a) : memRead (storeAll s l) b = memRead s b := by
  induction l generalizing s with
  | nil => rfl
  | cons p l ih =>
    obtain ⟨a, ha, hb⟩ := hl p (by simp)
    have hlt : a < 0x10000 := by
      rw [plainCell_eq_some_iff] at ha
      omega
    rw [storeAll_cons, memWrite_plainCell ha, ih (Memory.wf_write hs hlt _) fun q hq => hl q (by simp [hq]), memRead_setMem hs,
      if_neg (mt (readCell_iff_plainCell ha).1 hb)]

end Sys2Proof.Machine

namespace Sys2Proof.Proofs

open Sys2Proof.Machine

/-- Settles O56: every instruction does the stores of its shape and nothing else outside the Processor. -/
theorem onlyStoresChangeTheRest : Obligations.OnlyStoresChangeTheRest := by
  intro i s t hi ht
  rw [exec_eq_run] at ht
  rw [stores_eq s hi]
  exact runOp_afterStores s (shape i) t ht

/-- Settles O57: what the stores leave reads as before at every address of no stored cell. -/
theorem otherAddressesReadAsBefore : Obligations.OtherAddressesReadAsBefore := by
  intro i s t b hi hs ht hl
  obtain ⟨hrest, -⟩ := onlyStoresChangeTheRest i s t hi ht
  calc memRead t b = memRead { t with cpu := s.cpu, out := s.out } b := rfl
    _ = memRead (storeAll s (Claims.stores s i)) b := congrArg (memRead · b) hrest
    _ = memRead s b := memRead_storeAll hs hl

end Sys2Proof.Proofs
end

section
/-! The round trip between instructions and bytes (R121, R133, R139), both ways through one relation: what the entry of a first
byte reads from the bytes after it. -/

namespace Sys2Proof

open Sys2Proof.Machine

/-- The bytes after the first one and the instruction that the entry of the first one makes of them (R121). -/
inductive FirstByte.Reads : FirstByte → List Byte → Instr → Prop
  | op {i : Instr} : Reads (.op i) [] i
  | imm8 {mk : Byte → Instr} (n : Byte) : Reads (.imm8 mk) [n] (mk n)
  | imm16 {mk : Word → Instr} (nn : Word) : Reads (.imm16 mk) [lo8 nn, hi8 nn] (mk nn)
  | second (op2 : Byte) : Reads .second [op2] (prefixedInstr op2)

variable {b : Byte} {bs : List Byte} {i : Instr}

/-- The decoder follows the relation, whatever bytes come after. -/
theorem decode_of_reads (h : (firstByte b).Reads bs i) (rest : List Byte) : decode (b :: (bs ++ rest)) = .ok (i, rest) := by
  generalize hf : firstByte b = f at h
  cases h with
  | op => exact decode_op hf rest
  | imm8 n => exact decode_imm8 hf n rest
  | imm16 nn => exact decode_imm16 hf nn rest
  | second op2 => simp [decode, decodeBytes, hf, FirstByte.length]

/-- Of three bytes, the instruction at their front is read from as many as the first byte gives (R134). -/
theorem decodeBytes_reads (b0 b1 b2 : Byte) :
    ∃ bs, [b0, b1, b2].take (firstByte b0).length = b0 :: bs ∧ (firstByte b0).Reads bs (decodeBytes b0 b1 b2) := by
  unfold decodeBytes
  cases firstByte b0 with
  | op i => exact ⟨[], rfl, .op⟩
  | imm8 mk => exact ⟨[b1], rfl, .imm8 b1⟩
  | imm16 mk => exact ⟨[b1, b2], rfl, by simpa using FirstByte.Reads.imm16 (mk := mk) (joinBytes b2 b1)⟩
  | second => exact ⟨[b1], rfl, .second b1⟩

/-- Every row but that of 0xCB alone (R294) stands in the opcode maps where its encoding says (R130, R131). -/
theorem encode_reads (hi : i.wellFormed = true) : ∃ b bs, encode i = b :: bs ∧ (firstByte b).Reads bs i := by
  cases i
  case prefixCb => cases hi
  all_goals exact ⟨_, _, rfl, by constructor⟩

/-- Every entry of the prefixed map is encoded by 0xCB and the second byte of its place (R131). -/
theorem encode_prefixedInstr (op2 : Byte) :
    (prefixedInstr op2).wellFormed = true ∧ encode (prefixedInstr op2) = [0xCB, op2] := by
  revert op2
  decide

/-- Every entry of the first-byte map is encoded by the first byte of its place and the bytes it reads (R130): one case for
each first byte but 0xCB, whose entry leads to the prefixed map. -/
theorem encode_of_reads (h : (firstByte b).Reads bs i) : i.wellFormed = true ∧ encode i = b :: bs := by
  rcases eq_or_ne b 0xCB with rfl | hb
  · cases h with
    | second op2 => exact encode_prefixedInstr op2
  · obtain ⟨k, hk, rfl⟩ : ∃ k < 256, b = BitVec.ofNat 8 k := ⟨b.toNat, b.isLt, (BitVec.ofNat_toNat 8 b).symm⟩
    have hne : k ≠ 0xCB := by rintro rfl; exact hb rfl
    rcases Nat.lt_or_gt_of_ne hne with hlt | hgt <;> interval_cases k <;> cases h <;> exact ⟨rfl, rfl⟩

end Sys2Proof

namespace Sys2Proof.Proofs

/-- Settles O3: an instruction's bytes are read by the entry of the first of them, and the decoder follows that reading. -/
theorem decodeOfEncode : Obligations.DecodeOfEncode := by
  intro i rest hi
  obtain ⟨b, bs, he, hr⟩ := encode_reads hi
  rw [he]
  exact decode_of_reads hr rest

/-- Settles O4: the entry of the first byte reads the instruction, and the maps hold every entry where its encoding says. -/
theorem encodeOfDecode : Obligations.EncodeOfDecode := by
  intro b0 b1 b2
  obtain ⟨bs, htake, hr⟩ := decodeBytes_reads b0 b1 b2
  rw [htake]
  exact encode_of_reads hr

/-- Settles O1: the words are read by the format of their first byte. -/
theorem decodesSpecWords : Obligations.DecodesSpecWords :=
  ⟨decode_op rfl _, decode_imm8 rfl _ _, decode_op rfl _, decode_imm16 rfl 0xC000 _, decode_imm16 rfl 0xDFF0 _,
    decode_op rfl _, decode_op rfl _, decode_imm8 rfl _ _, decode_op rfl _, decode_op rfl _, decode_imm8 rfl _ _,
    decode_op rfl _, decode_op rfl _, decode_imm8 rfl _ _, decode_imm16 rfl 0x2000 _, decode_op rfl _, decode_op rfl _,
    decode_imm8 rfl _ _, decode_op rfl _, decode_second _ _, decode_second _ _, decode_second _ _, decode_second _ _,
    rfl, rfl, rfl⟩

/-- Settles O2: the map is finite and closed, so the 256 lengths are compared one by one. -/
theorem lengthByFirstByte : Obligations.LengthByFirstByte := by
  unfold Obligations.LengthByFirstByte
  decide

end Sys2Proof.Proofs
end

section
/-! What the bytes of an instruction do, from its shape (R121): the rows of the tables of instructions go through one lemma, with
the shape of each row named. -/

namespace Sys2Proof.Machine

variable {bs : List Byte} {i : Instr}

/-- The bytes of an instruction decode to it, and it does what its shape does. -/
theorem decode_exec_of_shape (o : Op) (hi : i.wellFormed = true := by rfl) (hbs : encode i = bs := by rfl)
    (ho : shape i = o := by rfl) (s : State) : decode bs = .ok (i, []) ∧ exec i s = runOp s o := by
  refine ⟨?_, by rw [exec_eq_run, ho]⟩
  simpa [hbs] using Proofs.decodeOfEncode i [] hi

/-- The rows of a table whose shapes are a function of their operands: the hypothesis compares the table with the encoder and
the shapes, row by row. -/
theorem decode_exec_rows {α : Type} {rows : List (List Byte × Instr × α)} (op : α → Op)
    (h : rows.map (fun row => (row.2.1.wellFormed, encode row.2.1, shape row.2.1)) =
      rows.map (fun row => (true, row.1, op row.2.2))) :
    ∀ row ∈ rows, ∀ s : State, decode row.1 = .ok (row.2.1, []) ∧ exec row.2.1 s = runOp s (op row.2.2) := by
  intro row hrow
  obtain ⟨hi, hbs, ho⟩ := by simpa only [Prod.mk.injEq] using List.map_inj_left.mp h row hrow
  exact decode_exec_of_shape _ hi hbs ho

end Sys2Proof.Machine
end

section
/-! The 8-bit loads and stores (R150 to R168). -/

namespace Sys2Proof.Machine

open Sys2Proof.Claims

/-- A byte write leaves the Processor, so a store changes no register. -/
theorem storeTo_eq (a : Word) (v : Byte) (n : Nat) (s : State) :
    storeTo a v n s = .next (after (memWrite s a v) s.cpu n) := by
  rw [← memWrite_cpu s a v]
  rfl

/-- Of the registers, only H and L change. -/
theorem storeAndMove_eq (delta : Word) (s : State) : storeAndMove delta s =
    .next (after (memWrite s s.hl s.cpu.a) (s.cpu.setPair .hl (s.hl + delta)) 8) := by
  rw [storeAndMove, State.setPair, memWrite_cpu]
  rfl

end Sys2Proof.Machine

namespace Sys2Proof.Proofs

open Sys2Proof.Machine Sys2Proof.Claims

/-- Settles O7: a row's shape is the load of its two operands. -/
theorem registerLoads : Obligations.RegisterLoads :=
  ⟨decode_exec_rows (fun (dst, src) => .loadReg dst src) rfl, fun n => decode_exec_rows (fun dst => .loadImm dst n) rfl⟩

/-- Settles O8: the rows one by one, each by the form of its address. -/
theorem memoryLoads : Obligations.MemoryLoads := by
  intro n nn
  simp only [memLoads, List.forall_mem_cons]
  exact ⟨decode_exec_of_shape (.load .a .bc 8), decode_exec_of_shape (.load .a .de 8), decode_exec_of_shape (.load .b .hl 8),
    decode_exec_of_shape (.load .c .hl 8), decode_exec_of_shape (.load .d .hl 8), decode_exec_of_shape (.load .e .hl 8),
    decode_exec_of_shape (.load .h .hl 8), decode_exec_of_shape (.load .l .hl 8), decode_exec_of_shape (.load .a .hl 8),
    decode_exec_of_shape (.load .a (.high n) 12), decode_exec_of_shape (.load .a .highC 8),
    decode_exec_of_shape (.load .a (.abs nn) 16), List.forall_mem_nil _⟩

/-- Settles O9: the rows one by one, each by the forms of its address and its byte. -/
theorem memoryStores : Obligations.MemoryStores := by
  intro n nn
  simp only [memStores, List.forall_mem_cons, ← storeTo_eq]
  exact ⟨decode_exec_of_shape (.store .bc (.reg .a) 8), decode_exec_of_shape (.store .de (.reg .a) 8),
    decode_exec_of_shape (.store .hl (.imm n) 12), decode_exec_of_shape (.store .hl (.reg .b) 8),
    decode_exec_of_shape (.store .hl (.reg .c) 8), decode_exec_of_shape (.store .hl (.reg .d) 8),
    decode_exec_of_shape (.store .hl (.reg .e) 8), decode_exec_of_shape (.store .hl (.reg .h) 8),
    decode_exec_of_shape (.store .hl (.reg .l) 8), decode_exec_of_shape (.store .hl (.reg .a) 8),
    decode_exec_of_shape (.store (.high n) (.reg .a) 12), decode_exec_of_shape (.store .highC (.reg .a) 8),
    decode_exec_of_shape (.store (.abs nn) (.reg .a) 16), List.forall_mem_nil _⟩

/-- Settles O10: the shapes that move HL by 1 or by -1; to subtract 1 is to add -1. -/
theorem pointerMovingLoads : Obligations.PointerMovingLoads := by
  intro s
  simp only [sub_eq_add_neg _ (1 : Word)]
  exact ⟨decode_exec_of_shape (i := .ldAMemHlInc) (.loadMove 1) (s := s),
    decode_exec_of_shape (i := .ldAMemHlDec) (.loadMove (-1)) (s := s),
    (decode_exec_of_shape (i := .ldMemHlIncA) (.storeMove 1) (s := s)).imp_right (·.trans (storeAndMove_eq 1 s)),
    (decode_exec_of_shape (i := .ldMemHlDecA) (.storeMove (-1)) (s := s)).imp_right (·.trans (storeAndMove_eq (-1) s))⟩

end Sys2Proof.Proofs
end

section
/-! The 16-bit loads and the two additions of a displacement to SP (R181 to R183, R186, R243). -/

namespace Sys2Proof.Machine

open Sys2Proof.Claims

/-- The flag byte of the claims is that of the model (R23). -/
theorem Flags.toByte_eq_flagByte (z n h c : Bool) : (Flags.mk z n h c).toByte = flagByte z n h c := by
  revert z n h c
  decide

/-- Sign extension adds the signed value modulo 65536 (R186). -/
theorem add_signExtend_eq_ofInt (w : Word) (e : Byte) : w + e.signExtend 16 = BitVec.ofInt 16 (w.toNat + e.toInt) := by
  rw [BitVec.ofInt_add, BitVec.ofInt_natCast, BitVec.ofNat_toNat, BitVec.setWidth_eq, BitVec.signExtend]

theorem complete_eq_after (s : State) (n : Nat) : complete s n = .next (after s s.cpu n) := rfl

/-- The two byte writes leave the Processor, so storing SP changes no register (R181). -/
theorem storeSp_eq (nn : Word) (s : State) : storeSp nn s =
    .next (after (memWrite (memWrite s nn (lo8 s.cpu.sp)) (nn + 1) (hi8 s.cpu.sp)) s.cpu 20) := by
  rw [storeSp, complete_eq_after, memWrite_cpu, memWrite_cpu]

end Sys2Proof.Machine

namespace Sys2Proof.Proofs

open Sys2Proof.Machine Sys2Proof.Claims

/-- Settles O11: the loads of a pair row by row, the rest by their shapes; the signed sum and the flag byte are those of the
model's addition to SP. -/
theorem loads16 : Obligations.Loads16 := by
  refine ⟨fun nn => ?pairs, decode_exec_of_shape (i := .ldSpHl) .loadSpHl, fun nn s => ?storeSp, fun e s => ?offset⟩
  case pairs =>
    simp only [pairLoads, List.forall_mem_cons]
    exact ⟨decode_exec_of_shape (.loadPair .bc nn), decode_exec_of_shape (.loadPair .de nn),
      decode_exec_of_shape (.loadPair .hl nn), decode_exec_of_shape (.loadPair .sp nn), List.forall_mem_nil _⟩
  case storeSp =>
    exact (decode_exec_of_shape (i := .ldMemNnSp nn) (.storeSp nn) (s := s)).imp_right (·.trans (storeSp_eq nn s))
  case offset =>
    simp only [← add_signExtend_eq_ofInt, ← Flags.toByte_eq_flagByte]
    exact ⟨decode_exec_of_shape (i := .ldHlSpE e) (.loadHlSp e) (s := s),
      decode_exec_of_shape (i := .addSpE e) (.addSp e) (s := s)⟩

end Sys2Proof.Proofs
end

section
/-! PUSH and POP (R180, R184, R185), and a word that is pushed and popped again. -/

namespace Sys2Proof.Machine

open Sys2Proof.Claims

variable {s : State} {a b : Nat}

/-- A push of a pair is the bus writes of its two bytes, the high one first (R184). -/
theorem pushPair_eq (p : StackPair) {high low : Byte} (h : s.cpu.stackPair p = joinBytes high low) : pushPair p s =
    .next (after (memWrite (memWrite s (s.cpu.sp - 1) high) (s.cpu.sp - 2) low) { s.cpu with sp := s.cpu.sp - 2 } 16) := by
  rw [pushPair, push16_eq, h, hi8_joinBytes, lo8_joinBytes]
  rfl

theorem Processor.setStackPair_withSp (p : Processor) (r : StackPair) (w v : Word) :
    { p with sp := w }.setStackPair r v = { p.setStackPair r v with sp := w } := by
  cases r <;> rfl

/-- A pop changes the popped pair and SP, and nothing else (R185). -/
theorem popPair_eq (p : StackPair) (s : State) : popPair p s =
    .next (after s { s.cpu.setStackPair p (popWord s) with sp := s.cpu.sp + 2 } 12) := by
  rw [popPair, popSp_cpu, Processor.setStackPair_withSp]
  rfl

/-- The rows of PUSH are the four pairs, each with its two bytes. -/
theorem pushRows_stackPair : ∀ row ∈ pushRows, ∃ p : StackPair,
    (∀ s : State, decode row.1 = .ok (row.2.1, []) ∧ exec row.2.1 s = pushPair p s) ∧
      ∀ cpu : Processor, cpu.stackPair p = joinBytes (row.2.2.1 cpu) (row.2.2.2 cpu) := by
  simp only [pushRows, List.forall_mem_cons]
  exact ⟨⟨.bc, decode_exec_of_shape (.push .bc), fun _ => rfl⟩, ⟨.de, decode_exec_of_shape (.push .de), fun _ => rfl⟩,
    ⟨.hl, decode_exec_of_shape (.push .hl), fun _ => rfl⟩, ⟨.af, decode_exec_of_shape (.push .af), fun _ => rfl⟩,
    List.forall_mem_nil _⟩

/-- The rows of POP are the four pairs, each with what becomes of its two registers. -/
theorem popRows_setStackPair : ∀ row ∈ popRows, ∃ p : StackPair,
    (∀ s : State, decode row.1 = .ok (row.2.1, []) ∧ exec row.2.1 s = popPair p s) ∧
      ∀ (cpu : Processor) (high low : Byte), cpu.setStackPair p (joinBytes high low) = row.2.2 cpu high low := by
  simp only [popRows, List.forall_mem_cons]
  refine ⟨⟨.bc, decode_exec_of_shape (.pop .bc), ?_⟩, ⟨.de, decode_exec_of_shape (.pop .de), ?_⟩,
    ⟨.hl, decode_exec_of_shape (.pop .hl), ?_⟩, ⟨.af, decode_exec_of_shape (.pop .af), ?_⟩, List.forall_mem_nil _⟩ <;>
  simp [Processor.setStackPair, Processor.setPair]

theorem plainCell_lt {addr : Word} (h : plainCell addr = some a) : a < 0x10000 := by
  rw [plainCell_eq_some_iff] at h
  omega

/-- A push into two plain cells shows at the addresses that read them, the later write first (R180). -/
theorem memRead_push16 (hs : s.mem.wf) (ha : plainCell (s.cpu.sp - 1) = some a) (hb : plainCell (s.cpu.sp - 2) = some b)
    (w c : Word) : memRead (push16 s w) c =
      if readCell c = some b then lo8 w else if readCell c = some a then hi8 w else memRead s c := by
  rw [push16_eq, memRead_withCpu, memWrite_plainCell ha, memWrite_plainCell hb,
    memRead_setMem (Memory.wf_write hs (plainCell_lt ha) _), memRead_setMem hs]

/-- A word pushed into two different plain cells is what a pop then reads: the second write misses the first one's cell. -/
theorem popWord_push16 (hs : s.mem.wf) (ha : plainCell (s.cpu.sp - 1) = some a) (hb : plainCell (s.cpu.sp - 2) = some b)
    (hab : a ≠ b) (w : Word) : popWord (push16 s w) = w := by
  have hsp : s.cpu.sp - 2 + 1 = s.cpu.sp - 1 := by bv_omega
  have hcell_a : readCell (s.cpu.sp - 1) = some a := (readCell_iff_plainCell ha).2 ha
  have hcell_b : readCell (s.cpu.sp - 2) = some b := (readCell_iff_plainCell hb).2 hb
  have hmiss : readCell (s.cpu.sp - 1) ≠ some b := by rwa [hcell_a, Ne, Option.some.injEq]
  have hhigh : memRead (push16 s w) (s.cpu.sp - 1) = hi8 w := by
    rw [memRead_push16 hs ha hb, if_neg hmiss, if_pos hcell_a]
  have hlow : memRead (push16 s w) (s.cpu.sp - 2) = lo8 w := by
    rw [memRead_push16 hs ha hb, if_pos hcell_b]
  rw [popWord, push16_cpu, hsp, hhigh, hlow, joinBytes_hi8_lo8]

/-- A pop after a push restores SP and with it the whole Processor (R180). -/
theorem popSp_push16_cpu (s : State) (w : Word) : (popSp (push16 s w)).cpu = s.cpu := by
  rw [popSp_cpu, push16_cpu]
  simp only [BitVec.sub_add_cancel]

@[simp] theorem popWord_setPc (s : State) (w : Word) : popWord (s.setPc w) = popWord s := rfl

@[simp] theorem popWord_withCycles (s : State) (n : Nat) : popWord (s.withCycles n) = popWord s := rfl

/-- The PC an interrupt was taken at is what a pop in its handler reads: the bit of IF is cleared before the push (R341). -/
theorem popWord_takeInterrupt (hs : s.mem.wf) (ha : plainCell (s.cpu.sp - 1) = some a)
    (hb : plainCell (s.cpu.sp - 2) = some b) (hab : a ≠ b) (src : Fin 5) : popWord (takeInterrupt src s) = s.cpu.pc := by
  simp only [takeInterrupt, popWord_withCycles, popWord_setPc]
  refine popWord_push16 ?_ (by simpa using ha) (by simpa using hb) hab _
  exact Memory.wf_write hs (by decide) _

/-- RETI pops PC and sets IME (R280). -/
theorem exec_reti (s : State) : exec .reti s =
    .next (after s { s.cpu with sp := s.cpu.sp + 2, pc := popWord s, ime := true } 16) := exec_eq_run .reti s

end Sys2Proof.Machine

namespace Sys2Proof.Proofs

open Sys2Proof.Machine Sys2Proof.Claims

/-- Settles O12: each row is the push or the pop of a pair. -/
theorem pushAndPop : Obligations.PushAndPop := by
  constructor <;> intro row hrow s
  · obtain ⟨p, hexec, hpair⟩ := pushRows_stackPair row hrow
    exact (hexec s).imp_right (·.trans (pushPair_eq p (hpair s.cpu)))
  · obtain ⟨p, hexec, hset⟩ := popRows_setStackPair row hrow
    rw [← hset]
    exact (hexec s).imp_right (·.trans (popPair_eq p s))

/-- Settles O58: a pop undoes a push, of a word and of the PC where an interrupt was taken. -/
theorem pushThenPop : Obligations.PushThenPop := by
  intro s w a b hs ha hb hab
  refine ⟨⟨popWord_push16 hs ha hb hab w, popSp_push16_cpu s w⟩, fun src => ?_⟩
  refine ⟨_, exec_reti _, ?_⟩
  simp only [after, popWord_takeInterrupt hs ha hb hab, takeInterrupt_cpu, BitVec.sub_add_cancel]

end Sys2Proof.Proofs
end

section
/-! The operations on A and an operand (R200 to R224): what each leaves in A and F, in numbers, and the nine operands of a table
of instructions. -/

namespace Sys2Proof.Machine

open Sys2Proof.Claims

/-- An addition to A in numbers (R200). -/
theorem added_eq (s : State) (v : Byte) (c : Bool) : added s v.toNat c.toNat =
    { s.cpu with a := (add8 s.cpu.a v c).1, f := (add8 s.cpu.a v c).2.toByte } := by
  have hz : (BitVec.ofNat 8 (s.cpu.a.toNat + v.toNat + c.toNat) == 0) =
      decide ((s.cpu.a.toNat + v.toNat + c.toNat) % 256 = 0) := by
    rw [beq_eq_decide, decide_eq_decide, ← BitVec.toNat_inj]
    rfl
  rw [add8, Flags.toByte_eq_flagByte, hz]
  rfl

theorem ofInt_byte_eq_zero_iff (d : Int) : BitVec.ofInt 8 d = 0 ↔ d % 256 = 0 := by
  rw [← BitVec.toNat_inj, BitVec.toNat_ofInt]
  change (d % 256).toNat = 0 ↔ _
  omega

/-- The flags of a subtraction from A in numbers: a borrow is a negative difference (R200). -/
theorem borrows_eq (s : State) (v : Byte) (c : Bool) : borrows s v.toNat c.toNat = (sub8 s.cpu.a v c).2.toByte := by
  rw [sub8, borrows, Flags.toByte_eq_flagByte]
  congr 1
  · rw [beq_eq_decide, decide_eq_decide, ofInt_byte_eq_zero_iff]
  · rw [decide_eq_decide]
    omega
  · rw [decide_eq_decide]
    omega

/-- A subtraction from A in numbers (R200). -/
theorem subtracted_eq (s : State) (v : Byte) (c : Bool) :
    { s.cpu with a := BitVec.ofInt 8 (s.cpu.a.toNat - v.toNat - c.toNat), f := borrows s v.toNat c.toNat } =
      { s.cpu with a := (sub8 s.cpu.a v c).1, f := (sub8 s.cpu.a v c).2.toByte } := by
  rw [borrows_eq]
  rfl

theorem subtracted_noCarry_eq (s : State) (v : Byte) :
    { s.cpu with a := BitVec.ofInt 8 (s.cpu.a.toNat - v.toNat), f := borrows s v.toNat 0 } =
      { s.cpu with a := (sub8 s.cpu.a v false).1, f := (sub8 s.cpu.a v false).2.toByte } := by
  simpa using subtracted_eq s v false

/-- A bitwise result in A (R200). -/
theorem logic8_eq (s : State) (r : Byte) (half : Bool) : { s.cpu with a := r, f := flagByte (r == 0) false half false } =
    { s.cpu with a := (logic8 r half).1, f := (logic8 r half).2.toByte } := by
  rw [logic8, Flags.toByte_eq_flagByte]

/-- CP changes F and nothing else (R222 to R224). -/
theorem compareWith_eq (v : Byte) (cost : Nat) (s : State) :
    compareWith v cost s = .next (after s { s.cpu with f := borrows s v.toNat 0 } cost) := by
  have hf : borrows s v.toNat 0 = _ := borrows_eq s v false
  rw [hf]
  rfl

/-- The nine operands of an operation on A, in the order of the opcodes, the immediate last (R201 to R224). -/
def operands (n : Byte) : List Src := [.reg .b, .reg .c, .reg .d, .reg .e, .reg .h, .reg .l, .mem, .reg .a, .imm n]

section Rows

variable {rows : List (List Byte × Instr × (State → Byte) × Nat)} {n : Byte} {result : State → Byte → Processor}
  (hbytes : rows.map (fun row => (row.2.1.wellFormed, encode row.2.1)) = rows.map (fun row => (true, row.1)))

include hbytes

/-- The rows of a table of the nine operands: the hypotheses compare it with the encoder and with the shapes, row by row. -/
theorem decode_exec_operandRows (op : Src → Op)
    (hop : ∀ src s, runOp s (op src) = .next (after s (result s (src.of s)) src.cost))
    (hshapes : rows.map (fun row => (shape row.2.1, row.2.2)) =
      (operands n).map (fun src => (op src, fun s => src.of s, src.cost))) :
    ∀ row ∈ rows, ∀ s : State, decode row.1 = .ok (row.2.1, []) ∧
      exec row.2.1 s = .next (after s (result s (row.2.2.1 s)) row.2.2.2) := by
  intro row hrow s
  obtain ⟨hi, hbs⟩ := by simpa only [Prod.mk.injEq] using List.map_inj_left.mp hbytes row hrow
  obtain ⟨src, -, hsrc⟩ := List.mem_map.mp (hshapes ▸ List.mem_map_of_mem hrow)
  obtain ⟨ho, hval⟩ := Prod.mk.inj hsrc
  rw [← hval]
  exact (decode_exec_of_shape (op src) hi hbs ho.symm s).imp_right (·.trans (hop src s))

/-- The rows of an operation whose result goes to A: it changes A and F and nothing else. -/
theorem decode_exec_aluRows (op : AluOp)
    (hop : ∀ s v, result s v =
      { s.cpu with a := (alu8 op s.cpu.a v s.cpu.flags.c).1, f := (alu8 op s.cpu.a v s.cpu.flags.c).2.toByte })
    (hshapes : rows.map (fun row => (shape row.2.1, row.2.2)) =
      (operands n).map (fun src => (.alu op src, fun s => src.of s, src.cost))) :
    ∀ row ∈ rows, ∀ s : State, decode row.1 = .ok (row.2.1, []) ∧
      exec row.2.1 s = .next (after s (result s (row.2.2.1 s)) row.2.2.2) := by
  refine decode_exec_operandRows hbytes (.alu op) (fun src s => ?_) hshapes
  rw [hop]
  rfl

end Rows

end Sys2Proof.Machine

namespace Sys2Proof.Proofs

open Sys2Proof.Machine Sys2Proof.Claims

/-- Settles O13: the rows of the two tables are additions of the nine operands. -/
theorem addAndAdc : Obligations.AddAndAdc := fun _ =>
  ⟨decode_exec_aluRows rfl .add (fun s v => added_eq s v false) rfl,
    decode_exec_aluRows rfl .adc (fun s v => added_eq s v s.cpu.flags.c) rfl⟩

/-- Settles O14: the rows are subtractions of the nine operands; CP writes only the flags. -/
theorem subSbcAndCp : Obligations.SubSbcAndCp := fun _ =>
  ⟨decode_exec_aluRows rfl .sub subtracted_noCarry_eq rfl,
    decode_exec_aluRows rfl .sbc (fun s v => subtracted_eq s v s.cpu.flags.c) rfl,
    decode_exec_operandRows (result := fun s v => { s.cpu with f := borrows s v.toNat 0 }) rfl .compare
      (fun src s => compareWith_eq (src.of s) src.cost s) rfl⟩

/-- Settles O15: the rows are bitwise operations on the nine operands. -/
theorem logic : Obligations.Logic := fun _ =>
  ⟨decode_exec_aluRows rfl .and (fun s v => logic8_eq s (s.cpu.a &&& v) true) rfl,
    decode_exec_aluRows rfl .xor (fun s v => logic8_eq s (s.cpu.a ^^^ v) false) rfl,
    decode_exec_aluRows rfl .or (fun s v => logic8_eq s (s.cpu.a ||| v) false) rfl⟩

end Sys2Proof.Proofs
end

section
/-! INC and DEC of a byte (R225 to R228). -/

namespace Sys2Proof.Machine

open Sys2Proof.Claims

theorem lowNibble_beq (v k : Byte) : (v &&& 0x0F == k) = decide (v.toNat % 16 = k.toNat) := by
  rw [beq_eq_decide, decide_eq_decide, ← BitVec.toNat_inj, BitVec.toNat_and]
  exact Eq.congr_left (Nat.and_two_pow_sub_one_eq_mod v.toNat 4)

/-- The flags of INC in numbers (R225). -/
theorem inc8_flags (v : Byte) (f : Flags) :
    (inc8 v f).2.toByte = flagByte (v == 0xFF) false (decide (v.toNat % 16 = 15)) f.c := by
  have hz : (v + 1 == 0) = (v == 0xFF) := by
    rw [beq_eq_decide, beq_eq_decide, decide_eq_decide]
    bv_omega
  rw [inc8, Flags.toByte_eq_flagByte, hz, lowNibble_beq]
  rfl

/-- The flags of DEC in numbers (R227). -/
theorem dec8_flags (v : Byte) (f : Flags) :
    (dec8 v f).2.toByte = flagByte (v == 0x01) true (decide (v.toNat % 16 = 0)) f.c := by
  have hz : (v - 1 == 0) = (v == 0x01) := by
    rw [beq_eq_decide, beq_eq_decide, decide_eq_decide]
    bv_omega
  rw [dec8, Flags.toByte_eq_flagByte, hz, lowNibble_beq]
  rfl

theorem incrementReg_eq (x : Reg) (s : State) : incrementReg x s = .next (after s
    { s.cpu.setReg x (s.cpu.reg x + 1) with
      f := flagByte (s.cpu.reg x == 0xFF) false (decide ((s.cpu.reg x).toNat % 16 = 15)) s.cpu.flags.c } 4) := by
  rw [← inc8_flags]
  rfl

theorem decrementReg_eq (x : Reg) (s : State) : decrementReg x s = .next (after s
    { s.cpu.setReg x (s.cpu.reg x - 1) with
      f := flagByte (s.cpu.reg x == 0x01) true (decide ((s.cpu.reg x).toNat % 16 = 0)) s.cpu.flags.c } 4) := by
  rw [← dec8_flags]
  rfl

/-- A byte write leaves the Processor, so with the flags set after it F alone changes. -/
theorem complete_memWrite_setFlags (s : State) (a : Word) (v : Byte) (f : Flags) (n : Nat) :
    complete ((memWrite s a v).setFlags f) n = .next (after (memWrite s a v) { s.cpu with f := f.toByte } n) := by
  rw [complete_eq_after, State.setFlags_cpu, memWrite_cpu]
  rfl

theorem incrementMem_eq (s : State) : incrementMem s = .next (after (memWrite s s.hl (memRead s s.hl + 1)) { s.cpu with
    f := flagByte (memRead s s.hl == 0xFF) false (decide ((memRead s s.hl).toNat % 16 = 15)) s.cpu.flags.c } 12) := by
  rw [← inc8_flags]
  exact complete_memWrite_setFlags ..

theorem decrementMem_eq (s : State) : decrementMem s = .next (after (memWrite s s.hl (memRead s s.hl - 1)) { s.cpu with
    f := flagByte (memRead s s.hl == 0x01) true (decide ((memRead s s.hl).toNat % 16 = 0)) s.cpu.flags.c } 12) := by
  rw [← dec8_flags]
  exact complete_memWrite_setFlags ..

end Sys2Proof.Machine

namespace Sys2Proof.Proofs

open Sys2Proof.Machine

/-- Settles O16: the rows are the shapes that move a register by 1; the byte at HL by its own two shapes. -/
theorem incAndDec : Obligations.IncAndDec := by
  refine ⟨fun row hrow s => ?incReg, fun row hrow s => ?decReg, fun s => ⟨?incMem, ?decMem⟩⟩
  case incReg =>
    exact (decode_exec_rows (fun r => .inc (some r)) rfl row hrow s).imp_right (·.trans (incrementReg_eq _ s))
  case decReg =>
    exact (decode_exec_rows (fun r => .dec (some r)) rfl row hrow s).imp_right (·.trans (decrementReg_eq _ s))
  case incMem =>
    exact (decode_exec_of_shape (i := .incMemHl) (.inc none) (s := s)).imp_right (·.trans (incrementMem_eq s))
  case decMem =>
    exact (decode_exec_of_shape (i := .decMemHl) (.dec none) (s := s)).imp_right (·.trans (decrementMem_eq s))

end Sys2Proof.Proofs
end

section
/-! The 16-bit arithmetic (R240 to R242). -/

namespace Sys2Proof.Machine

open Sys2Proof.Claims

/-- The high byte of a sum in numbers: a carry out of bit 15 is lost (R240). -/
theorem hi8_add (a b : Word) : hi8 (a + b) = BitVec.ofNat 8 ((a.toNat + b.toNat) / 256) := by
  rw [hi8_eq_div, ← BitVec.toNat_inj]
  simp only [BitVec.toNat_add, BitVec.toNat_ofNat]
  omega

/-- The low byte of a sum in numbers (R240). -/
theorem lo8_add (a b : Word) : lo8 (a + b) = BitVec.ofNat 8 (a.toNat + b.toNat) := by
  rw [lo8_eq_mod, ← BitVec.toNat_inj]
  simp only [BitVec.toNat_add, BitVec.toNat_ofNat]
  omega

/-- An addition to HL changes H, L and F and nothing else; of F, Z stays (R240). -/
theorem addHl_eq (p : Pair) (s : State) : addHl p s = .next (after s { s.cpu with
    h := BitVec.ofNat 8 ((s.hl.toNat + (s.cpu.pair p).toNat) / 256)
    l := BitVec.ofNat 8 (s.hl.toNat + (s.cpu.pair p).toNat)
    f := flagByte s.cpu.flags.z false (decide (0x0FFF < s.hl.toNat % 4096 + (s.cpu.pair p).toNat % 4096))
      (decide (0xFFFF < s.hl.toNat + (s.cpu.pair p).toNat)) } 8) := by
  rw [← hi8_add, ← lo8_add, ← Flags.toByte_eq_flagByte]
  rfl

/-- To subtract 1 is to add -1 (R242). -/
theorem movePair_neg_one (p : Pair) (s : State) :
    movePair p (-1) s = .next (after s (s.cpu.setPair p (s.cpu.pair p - 1)) 8) := by
  rw [BitVec.sub_eq_add_neg]
  rfl

/-- The rows of a table of the four pairs: the hypotheses compare it with the encoder, and with the shape and the value of each
pair, row by row. -/
theorem decode_exec_pairRows {α : Type} {rows : List (List Byte × Instr × α)} (op : Pair → Op) (val : Pair → α)
    (hbytes : rows.map (fun row => (row.2.1.wellFormed, encode row.2.1)) = rows.map (fun row => (true, row.1)))
    (hshapes : rows.map (fun row => (shape row.2.1, row.2.2)) =
      [Pair.bc, Pair.de, Pair.hl, Pair.sp].map (fun p => (op p, val p))) :
    ∀ row ∈ rows, ∃ p, val p = row.2.2 ∧
      ∀ s : State, decode row.1 = .ok (row.2.1, []) ∧ exec row.2.1 s = runOp s (op p) := by
  intro row hrow
  obtain ⟨hi, hbs⟩ := by simpa only [Prod.mk.injEq] using List.map_inj_left.mp hbytes row hrow
  obtain ⟨p, -, hp⟩ := List.mem_map.mp (hshapes ▸ List.mem_map_of_mem hrow)
  obtain ⟨ho, hval⟩ := Prod.mk.inj hp
  exact ⟨p, hval, decode_exec_of_shape (op p) hi hbs ho.symm⟩

end Sys2Proof.Machine

namespace Sys2Proof.Proofs

open Sys2Proof.Machine Sys2Proof.Claims

/-- Settles O17: each row is the addition of a pair to HL, or the move of a pair by 1 or by -1. -/
theorem arithmetic16 : Obligations.Arithmetic16 := by
  refine ⟨fun row hrow s => ?add, fun row hrow s => ?inc, fun row hrow s => ?dec⟩
  case add =>
    obtain ⟨p, hval, hexec⟩ := decode_exec_pairRows .addHl (fun p s => s.cpu.pair p) rfl rfl row hrow
    rw [← hval]
    exact (hexec s).imp_right (·.trans (addHl_eq p s))
  case inc =>
    obtain ⟨p, hval, hexec⟩ :=
      decode_exec_pairRows (.movePair · 1) (fun p s => s.cpu.setPair p (s.cpu.pair p + 1)) rfl rfl row hrow
    rw [← hval]
    exact hexec s
  case dec =>
    obtain ⟨p, hval, hexec⟩ :=
      decode_exec_pairRows (.movePair · (-1)) (fun p s => s.cpu.setPair p (s.cpu.pair p - 1)) rfl rfl row hrow
    rw [← hval]
    exact (hexec s).imp_right (·.trans (movePair_neg_one p s))

end Sys2Proof.Proofs
end

section
/-! The accumulator rotates, CPL, SCF and CCF (R251 to R254, R256 to R258): RLA as a rotation of nine bits. -/

namespace Sys2Proof.Machine

open Sys2Proof.Claims

/-- The top bit of a byte in numbers. -/
theorem getLsbD_seven_eq (v : Byte) : v.getLsbD 7 = decide (128 ≤ v.toNat) :=
  (BitVec.msb_eq_getLsbD_last v).symm.trans (BitVec.msb_eq_decide v)

/-- The carry that a rotate, shift or SWAP leaves, in numbers (R301 to R316). -/
theorem shift8_carry (op : ShiftOp) (v : Byte) (carry : Bool) : (shift8 op v carry).2 = shiftedOut op.number v.toNat := by
  cases op with
  | rlc | rl | sla => exact getLsbD_seven_eq v
  | rrc | rr | sra | srl => exact getLsbD_zero_eq v
  | swap => rfl

/-- A rotate of A changes A and F and nothing else (R251 to R254). -/
theorem rotateA_eq (op : ShiftOp) (s : State) : rotateA op s = .next (after s { s.cpu with
    a := (shift8 op s.cpu.a s.cpu.flags.c).1, f := flagByte false false false (shift8 op s.cpu.a s.cpu.flags.c).2 } 4) := by
  rw [← Flags.toByte_eq_flagByte]
  rfl

/-- A rotate of A in numbers (R251 to R254). -/
theorem rotateA_eq_shifted (op : ShiftOp) (s : State) : rotateA op s = .next (after s { s.cpu with
    a := BitVec.ofNat 8 (shifted op.number s.cpu.a.toNat (carry s))
    f := flagByte false false false (shiftedOut op.number s.cpu.a.toNat) } 4) := by
  rw [rotateA_eq, shift8_eq_shifted, shift8_carry]
  rfl

/-- CPL changes A and F and nothing else; of F, Z and the carry stay (R256). -/
theorem runOp_cpl (s : State) : runOp s .cpl = .next (after s { s.cpu with
    a := s.cpu.a ^^^ 0xFF, f := flagByte s.cpu.flags.z true true s.cpu.flags.c } 4) := by
  rw [← Flags.toByte_eq_flagByte]
  rfl

/-- SCF changes F and nothing else; of F, Z stays (R257). -/
theorem runOp_scf (s : State) :
    runOp s .scf = .next (after s { s.cpu with f := flagByte s.cpu.flags.z false false true } 4) := by
  rw [← Flags.toByte_eq_flagByte]
  rfl

/-- CCF changes F and nothing else; of F, Z stays (R258). -/
theorem runOp_ccf (s : State) :
    runOp s .ccf = .next (after s { s.cpu with f := flagByte s.cpu.flags.z false false (!s.cpu.flags.c) } 4) := by
  rw [← Flags.toByte_eq_flagByte]
  rfl

/-- The carry and A side by side, the nine bits that RLA rotates (R253). -/
def carryAndA (s : State) : BitVec 9 := .cons s.cpu.flags.c s.cpu.a

/-- The state after a rotate of A that leaves these nine bits in the carry and A (R253). -/
def afterRotate (s : State) (x : BitVec 9) : State :=
  after s { s.cpu with a := x.setWidth 8, f := flagByte false false false x.msb } 4

theorem afterRotate_cons (s : State) (c : Bool) (v : Byte) :
    afterRotate s (.cons c v) = after s { s.cpu with a := v, f := flagByte false false false c } 4 := by
  rw [afterRotate, BitVec.setWidth_cons, BitVec.msb_cons]

theorem carryAndA_afterRotate (s : State) (x : BitVec 9) : carryAndA (afterRotate s x) = x := by
  have hflags : (Flags.ofByte (flagByte false false false x.msb)).c = x.msb := by
    rw [← Flags.toByte_eq_flagByte, Flags.ofByte_toByte]
  calc carryAndA (afterRotate s x) = .cons (Flags.ofByte (flagByte false false false x.msb)).c (x.setWidth 8) := rfl
    _ = .cons x.msb (x.setWidth 8) := by rw [hflags]
    _ = x := BitVec.cons_msb_setWidth x

theorem afterRotate_afterRotate (s : State) (x y : BitVec 9) : afterRotate (afterRotate s x) y = afterRotate s y := rfl

/-- The shift through the carry is a rotation by one of the carry and the byte (R253). -/
theorem rotateLeft_one_cons (c : Bool) (v : Byte) :
    (BitVec.cons c v).rotateLeft 1 = .cons (shift8 .rl v c).2 (shift8 .rl v c).1 := by
  revert c v
  decide

variable {w : Nat}

theorem rotateLeft_rotateLeft (x : BitVec w) (m n : Nat) : (x.rotateLeft m).rotateLeft n = x.rotateLeft (m + n) := by
  refine BitVec.eq_of_getMsbD_eq fun i hi => ?_
  have hlt : (n + i) % w < w := Nat.mod_lt _ (by omega)
  simp [BitVec.getMsbD_rotateLeft, hi, hlt, Nat.add_assoc]

theorem rotateLeft_width (x : BitVec w) : x.rotateLeft w = x := by
  refine BitVec.eq_of_getMsbD_eq fun i hi => ?_
  simp [BitVec.getMsbD_rotateLeft, hi, Nat.mod_eq_of_lt hi]

/-- RLA is a rotation by one of the carry and A (R253). -/
theorem exec_rla (s : State) : exec .rla s = .next (afterRotate s ((carryAndA s).rotateLeft 1)) := by
  rw [carryAndA, rotateLeft_one_cons, afterRotate_cons]
  exact (exec_eq_run .rla s).trans (rotateA_eq .rl s)

/-- Some RLAs in a row are one rotation by their number (R253). -/
theorem times_rla (n : Nat) (s : State) :
    times .rla (n + 1) s = .next (afterRotate s ((carryAndA s).rotateLeft (n + 1))) := by
  induction n generalizing s with
  | zero => rw [times, exec_rla]; rfl
  | succ n ih =>
    rw [times, exec_rla]
    dsimp only
    rw [ih, carryAndA_afterRotate, afterRotate_afterRotate, rotateLeft_rotateLeft, Nat.add_comm 1]

/-- Nine RLAs leave the carry and A as they were (R253). -/
theorem times_rla_nine (s : State) :
    times .rla 9 s = .next (after s { s.cpu with f := flagByte false false false s.cpu.flags.c } 4) := by
  rw [times_rla, rotateLeft_width, carryAndA, afterRotate_cons]

end Sys2Proof.Machine

namespace Sys2Proof.Proofs

open Sys2Proof.Machine Sys2Proof.Claims

/-- Settles O18: the rotates row by row, each the shift of its number; nine rotations by one of nine bits are the identity. -/
theorem rotatesAndFlagInstructions : Obligations.RotatesAndFlagInstructions := by
  refine ⟨?rotates, fun s => ⟨?nop, ?cpl, ?scf, ?ccf⟩, times_rla_nine⟩
  case rotates =>
    simp only [accRotates, List.forall_mem_cons]
    exact ⟨fun s => (decode_exec_of_shape (.rotateA .rlc) (s := s)).imp_right (·.trans (rotateA_eq_shifted .rlc s)),
      fun s => (decode_exec_of_shape (.rotateA .rrc) (s := s)).imp_right (·.trans (rotateA_eq_shifted .rrc s)),
      fun s => (decode_exec_of_shape (.rotateA .rl) (s := s)).imp_right (·.trans (rotateA_eq_shifted .rl s)),
      fun s => (decode_exec_of_shape (.rotateA .rr) (s := s)).imp_right (·.trans (rotateA_eq_shifted .rr s)),
      List.forall_mem_nil _⟩
  case nop => exact decode_exec_of_shape (i := .nop) .nop (s := s)
  case cpl => exact (decode_exec_of_shape (i := .cpl) .cpl (s := s)).imp_right (·.trans (runOp_cpl s))
  case scf => exact (decode_exec_of_shape (i := .scf) .scf (s := s)).imp_right (·.trans (runOp_scf s))
  case ccf => exact (decode_exec_of_shape (i := .ccf) .ccf (s := s)).imp_right (·.trans (runOp_ccf s))

end Sys2Proof.Proofs
end

section
/-! DAA (R255): its pseudocode in numbers, and the correction of a packed decimal sum or difference. -/

namespace Sys2Proof.Machine

open Sys2Proof.Claims

/-- Whether DAA corrects the low digit (R255). -/
def correctsLow (a : Byte) (f : Flags) : Bool := if f.n then f.h else f.h || decide (0x09 < a.toNat % 16)

/-- Whether DAA corrects the high digit, which is also the carry it leaves (R255). -/
def correctsHigh (a : Byte) (f : Flags) : Bool := if f.n then f.c else f.c || decide (0x99 < a.toNat)

/-- The adjustment of DAA as a number (R255). -/
def decimalCorrection (a : Byte) (f : Flags) : Int :=
  (if correctsLow a f then 0x06 else 0x00) + (if correctsHigh a f then 0x60 else 0x00)

/-- The two parts of the adjustment share no bit, so it is their sum (R255). -/
theorem adjustment_eq (p q : Bool) : (if p then 0x06#8 else 0x00#8) ||| (if q then 0x60#8 else 0x00#8) =
    BitVec.ofInt 8 ((if p then 0x06 else 0x00) + (if q then 0x60 else 0x00)) := by
  revert p q
  decide

theorem daaAdjust_eq (a : Byte) (f : Flags) :
    daaAdjust a f = (BitVec.ofInt 8 (decimalCorrection a f), correctsHigh a f) := by
  have hlow : (a &&& 0x0F).toNat = a.toNat % 16 := Nat.and_two_pow_sub_one_eq_mod a.toNat 4
  rw [decimalCorrection, ← adjustment_eq, daaAdjust, hlow]
  cases hn : f.n <;> simp [correctsLow, correctsHigh, hn]

/-- DAA adds the adjustment after an addition and subtracts it after a subtraction (R255). -/
theorem daa8_fst (a : Byte) (f : Flags) : (daa8 a f).1 =
    BitVec.ofInt 8 (if f.n then a.toNat - decimalCorrection a f else a.toNat + decimalCorrection a f) := by
  have ha : BitVec.ofInt 8 a.toNat = a := by rw [BitVec.ofInt_natCast, BitVec.ofNat_toNat, BitVec.setWidth_eq]
  rw [daa8, daaAdjust_eq]
  dsimp only
  split
  · rw [Int.sub_eq_add_neg, BitVec.ofInt_add, BitVec.ofInt_neg, ha, BitVec.sub_eq_add_neg]
  · rw [BitVec.ofInt_add, ha]

theorem daa8_snd (a : Byte) (f : Flags) :
    (daa8 a f).2 = { f with z := (daa8 a f).1 == 0, h := false, c := correctsHigh a f } := by
  simp only [daa8, daaAdjust_eq]

/-- DAA changes A and F and nothing else; of F, N stays (R255). -/
theorem decimalAdjust_eq (s : State) : decimalAdjust s = .next (after s { s.cpu with
    a := (daa8 s.cpu.a s.cpu.flags).1
    f := flagByte ((daa8 s.cpu.a s.cpu.flags).1 == 0) s.cpu.flags.n false (correctsHigh s.cpu.a s.cpu.flags) } 4) := by
  rw [← Flags.toByte_eq_flagByte, decimalAdjust, daa8_snd]
  rfl

/-- An operation on A and an immediate, and DAA after it: what the two leave in A and in the carry. -/
theorem exec_alu_then_daa {i : Instr} {op : AluOp} {y : Byte} (hi : shape i = .alu op (.imm y)) (s : State)
    {r : Byte × Flags} (hr : alu8 op s.cpu.a y s.cpu.flags.c = r) : ∃ t u, exec i s = .next t ∧ exec .daa t = .next u ∧
      u.cpu.a = (daa8 r.1 r.2).1 ∧ u.cpu.f.getLsbD 4 = correctsHigh r.1 r.2 := by
  have halu : exec i s = .next (((s.setReg .a r.1).setFlags r.2).withCycles 8) := by rw [exec_eq_run, hi, ← hr]; rfl
  refine ⟨_, _, halu, exec_eq_run .daa _, ?_, ?_⟩
  · show (daa8 r.1 (Flags.ofByte r.2.toByte)).1 = _
    rw [Flags.ofByte_toByte]
  · show (Flags.ofByte (daa8 r.1 (Flags.ofByte r.2.toByte)).2.toByte).c = _
    rw [Flags.ofByte_toByte, Flags.ofByte_toByte, daa8_snd]

theorem ofInt_byte_toNat (d : Int) : ((BitVec.ofInt 8 d).toNat : Int) = d % 256 := by
  rw [BitVec.toNat_ofInt]
  exact Int.toNat_of_nonneg (Int.emod_nonneg _ (by decide))

section Decimal

variable {a y : Byte}

theorem isBcd_iff : isBcd a = true ↔ a.toNat / 16 ≤ 9 ∧ a.toNat % 16 ≤ 9 := by simp [isBcd]

/-- Why the corrections are 6 and 96: where the columns of a sum or a difference are `high` and `low`, 6 for the carry or borrow
out of the low column and 96 for that out of both leave the two decimal digits modulo 256 (R255). -/
theorem corrected_digits (high low : Int)
    (ha : (a.toNat : Int) = (16 * high + low + (6 * (low / 10) + 96 * ((10 * high + low) / 100))) % 256) :
    isBcd a = true ∧ (bcd a : Int) = (10 * high + low) % 100 := by
  have hcarry : (10 * high + low) / 100 = (high + low / 10) / 10 := by omega
  have hdigits : (a.toNat : Int) = 16 * ((high + low / 10) % 10) + low % 10 := by omega
  simp only [isBcd_iff, bcd]
  omega

/-- After SUB the low digit is corrected where the low column borrows (R255). -/
theorem correctsLow_sub8 :
    correctsLow (sub8 a y false).1 (sub8 a y false).2 = true ↔ a.toNat % 16 < y.toNat % 16 := by
  simp only [correctsLow, sub8, Bool.toNat_false, if_true, decide_eq_true_eq]
  omega

variable (ha : isBcd a = true) (hy : isBcd y = true)

include ha hy

/-- After ADD the low digit is corrected where the low column passes 9: a half-carry, or a digit above 9 (R255). -/
theorem correctsLow_add8 :
    correctsLow (add8 a y false).1 (add8 a y false).2 = true ↔ 9 < a.toNat % 16 + y.toNat % 16 := by
  rw [isBcd_iff] at ha hy
  simp only [correctsLow, add8, BitVec.toNat_ofNat, Bool.toNat_false, Bool.false_eq_true, if_false, Bool.or_eq_true,
    decide_eq_true_eq]
  omega

/-- After ADD the high digit is corrected where the sum passes 99: a carry, or a byte above 0x99 (R255). -/
theorem correctsHigh_add8 : correctsHigh (add8 a y false).1 (add8 a y false).2 = true ↔ 99 < bcd a + bcd y := by
  rw [isBcd_iff] at ha hy
  simp only [correctsHigh, add8, BitVec.toNat_ofNat, Bool.toNat_false, Bool.false_eq_true, if_false, Bool.or_eq_true,
    decide_eq_true_eq, bcd]
  omega

/-- After SUB the high digit is corrected where the difference is below 0 (R255). -/
theorem correctsHigh_sub8 : correctsHigh (sub8 a y false).1 (sub8 a y false).2 = true ↔ bcd a < bcd y := by
  rw [isBcd_iff] at ha hy
  simp only [correctsHigh, sub8, Bool.toNat_false, if_true, decide_eq_true_eq, bcd]
  omega

/-- The correction after ADD, from the two columns (R255). -/
theorem decimalCorrection_add8 : decimalCorrection (add8 a y false).1 (add8 a y false).2 =
    6 * ((a.toNat % 16 + y.toNat % 16 : Int) / 10) +
      96 * ((10 * (a.toNat / 16 + y.toNat / 16) + (a.toNat % 16 + y.toNat % 16)) / 100) := by
  simp only [decimalCorrection, correctsLow_add8 ha hy, correctsHigh_add8 ha hy, bcd]
  rw [isBcd_iff] at ha hy
  omega

/-- The correction after SUB, from the two columns (R255). -/
theorem decimalCorrection_sub8 : -decimalCorrection (sub8 a y false).1 (sub8 a y false).2 =
    6 * ((a.toNat % 16 - y.toNat % 16 : Int) / 10) +
      96 * ((10 * (a.toNat / 16 - y.toNat / 16) + (a.toNat % 16 - y.toNat % 16)) / 100) := by
  simp only [decimalCorrection, correctsLow_sub8, correctsHigh_sub8 ha hy, bcd]
  rw [isBcd_iff] at ha hy
  omega

/-- DAA after the addition of packed decimal bytes leaves the last two digits of the sum (R255). -/
theorem daa8_add8 : isBcd (daa8 (add8 a y false).1 (add8 a y false).2).1 = true ∧
    bcd (daa8 (add8 a y false).1 (add8 a y false).2).1 = (bcd a + bcd y) % 100 := by
  have hsum : ((add8 a y false).1.toNat : Int) = (a.toNat + y.toNat) % 256 := rfl
  have hvalue : ((daa8 (add8 a y false).1 (add8 a y false).2).1.toNat : Int) =
      (a.toNat + y.toNat + decimalCorrection (add8 a y false).1 (add8 a y false).2) % 256 := by
    rw [daa8_fst, ofInt_byte_toNat, ← Int.emod_add_emod, ← hsum]
    rfl
  rw [decimalCorrection_add8 ha hy] at hvalue
  obtain ⟨hdigits, hresult⟩ := corrected_digits (a.toNat / 16 + y.toNat / 16) (a.toNat % 16 + y.toNat % 16)
    (hvalue.trans (by congr 2; omega))
  refine ⟨hdigits, ?_⟩
  simp only [bcd] at hresult ⊢
  omega

/-- DAA after the subtraction of packed decimal bytes leaves the last two digits of the difference (R255). -/
theorem daa8_sub8 : isBcd (daa8 (sub8 a y false).1 (sub8 a y false).2).1 = true ∧
    bcd (daa8 (sub8 a y false).1 (sub8 a y false).2).1 = (bcd a + 100 - bcd y) % 100 := by
  have hdiff : ((sub8 a y false).1.toNat : Int) = (a.toNat - y.toNat - 0) % 256 := ofInt_byte_toNat _
  have hvalue : ((daa8 (sub8 a y false).1 (sub8 a y false).2).1.toNat : Int) =
      (a.toNat - y.toNat - 0 + -decimalCorrection (sub8 a y false).1 (sub8 a y false).2) % 256 := by
    rw [daa8_fst, ofInt_byte_toNat, ← Int.emod_add_emod, ← hdiff]
    rfl
  rw [decimalCorrection_sub8 ha hy] at hvalue
  obtain ⟨hdigits, hresult⟩ := corrected_digits (a.toNat / 16 - y.toNat / 16) (a.toNat % 16 - y.toNat % 16)
    (hvalue.trans (by congr 2; omega))
  rw [isBcd_iff] at ha hy
  refine ⟨hdigits, ?_⟩
  simp only [bcd] at hresult ⊢
  omega

end Decimal

end Sys2Proof.Machine

namespace Sys2Proof.Proofs

open Sys2Proof.Machine Sys2Proof.Claims

/-- Settles O19: the pseudocode in numbers; after ADD and SUB the corrected digits are those that carried or borrowed. -/
theorem decimalAdjust : Obligations.DecimalAdjust := by
  refine ⟨fun s => ?pseudocode, fun s y hs hy => ⟨?sum, ?difference⟩⟩
  case pseudocode =>
    have h := (decode_exec_of_shape (i := .daa) .daa (s := s)).imp_right (·.trans (decimalAdjust_eq s))
    have hcarry : (if s.cpu.flags.n then s.cpu.flags.c else correctsHigh s.cpu.a s.cpu.flags) =
        correctsHigh s.cpu.a s.cpu.flags := by
      simp only [correctsHigh]
      split <;> rfl
    rw [daa8_fst, ← hcarry] at h
    exact h
  case sum =>
    obtain ⟨t, u, ht, hu, hresult, hcarry⟩ := exec_alu_then_daa (i := .addAN y) (op := .add) rfl s rfl
    refine ⟨t, u, ht, hu, ?_⟩
    rw [hresult, hcarry]
    exact and_assoc.mp ⟨daa8_add8 hs hy, correctsHigh_add8 hs hy⟩
  case difference =>
    obtain ⟨t, u, ht, hu, hresult, hcarry⟩ := exec_alu_then_daa (i := .subN y) (op := .sub) rfl s rfl
    refine ⟨t, u, ht, hu, ?_⟩
    rw [hresult, hcarry]
    exact and_assoc.mp ⟨daa8_sub8 hs hy, correctsHigh_sub8 hs hy⟩

end Sys2Proof.Proofs
end

section
/-! Jumps, calls and returns (R270 to R281): what a condition decides, and the return address on the stack. -/

namespace Sys2Proof.Machine

open Sys2Proof.Claims

/-- Whether an instruction with this condition, or with none, is taken (R270). -/
def condition (cc : Option Cond) (s : State) : Bool := cc.elim true (·.holds s.cpu.flags)

/-- What RET costs when it returns: 4 more with a condition (R278, R279). -/
def retCost (cc : Option Cond) : Nat := if cc.isSome then 20 else 16

theorem jumpTo_eq (target : Word) (cost : Nat) (s : State) :
    jumpTo target cost s = .next (after s { s.cpu with pc := target } cost) := rfl

/-- A call writes the two bytes of the return address, the high one first, and changes SP and PC and no other register
(R276, R281). -/
theorem callTo_eq (target : Word) (cost : Nat) (s : State) : callTo target cost s =
    .next (after (memWrite (memWrite s (s.cpu.sp - 1) (hi8 s.cpu.pc)) (s.cpu.sp - 2) (lo8 s.cpu.pc))
      { s.cpu with sp := s.cpu.sp - 2, pc := target } cost) := by
  rw [callTo, push16_eq]
  rfl

theorem returnPopped_eq (cost : Nat) (s : State) : returnPopped cost s =
    .next (after s { s.cpu with sp := s.cpu.sp + 2, pc := popWord s } cost) := rfl

/-- JP: a condition that fails only costs less (R271, R272). -/
theorem runOp_jump (cc : Option Cond) (nn : Word) (s : State) : runOp s (.jump cc nn) =
    .next (if condition cc s then after s { s.cpu with pc := nn } 16 else after s s.cpu 12) := by
  rw [apply_ite Host.Outcome.next, ← jumpTo_eq]
  cases cc <;> rfl

/-- JR: the signed displacement counts from the address of the next instruction (R274, R275). -/
theorem runOp_jumpRel (cc : Option Cond) (e : Byte) (s : State) : runOp s (.jumpRel cc e) =
    .next (if condition cc s then after s { s.cpu with pc := BitVec.ofInt 16 (s.cpu.pc.toNat + e.toInt) } 12
      else after s s.cpu 8) := by
  rw [apply_ite Host.Outcome.next, ← jumpTo_eq, ← add_signExtend_eq_ofInt]
  cases cc <;> rfl

/-- CALL: a condition that fails pushes nothing (R276, R277). -/
theorem runOp_call (cc : Option Cond) (nn : Word) (s : State) : runOp s (.call cc nn) =
    .next (if condition cc s then
        after (memWrite (memWrite s (s.cpu.sp - 1) (hi8 s.cpu.pc)) (s.cpu.sp - 2) (lo8 s.cpu.pc))
          { s.cpu with sp := s.cpu.sp - 2, pc := nn } 24
      else after s s.cpu 12) := by
  rw [apply_ite Host.Outcome.next, ← callTo_eq]
  cases cc <;> rfl

/-- RET: a condition that fails pops nothing (R278, R279). -/
theorem runOp_ret (cc : Option Cond) (s : State) : runOp s (.ret cc) =
    .next (if condition cc s then after s { s.cpu with sp := s.cpu.sp + 2, pc := popWord s } (retCost cc)
      else after s s.cpu 8) := by
  rw [apply_ite Host.Outcome.next, ← returnPopped_eq]
  cases cc <;> rfl

/-- The rows of a table of conditions: the hypotheses compare it with the encoder, and with the shape and the value of each
condition, row by row. -/
theorem decode_exec_conditionRows {α : Type} {rows : List (List Byte × Instr × α)} (ccs : List (Option Cond))
    (op : Option Cond → Op) (val : Option Cond → α)
    (hbytes : rows.map (fun row => (row.2.1.wellFormed, encode row.2.1)) = rows.map (fun row => (true, row.1)))
    (hshapes : rows.map (fun row => (shape row.2.1, row.2.2)) = ccs.map (fun cc => (op cc, val cc))) :
    ∀ row ∈ rows, ∃ cc, val cc = row.2.2 ∧
      ∀ s : State, decode row.1 = .ok (row.2.1, []) ∧ exec row.2.1 s = runOp s (op cc) := by
  intro row hrow
  obtain ⟨hi, hbs⟩ := by simpa only [Prod.mk.injEq] using List.map_inj_left.mp hbytes row hrow
  obtain ⟨cc, -, hcc⟩ := List.mem_map.mp (hshapes ▸ List.mem_map_of_mem hrow)
  obtain ⟨ho, hval⟩ := Prod.mk.inj hcc
  exact ⟨cc, hval, decode_exec_of_shape (op cc) hi hbs ho.symm⟩

end Sys2Proof.Machine

namespace Sys2Proof.Proofs

open Sys2Proof.Machine Sys2Proof.Claims

/-- Settles O20: each row is the jump of a condition, and JP HL is a jump of its own. -/
theorem jumps : Obligations.Jumps := by
  refine ⟨fun nn row hrow s => ?absolute, decode_exec_of_shape (i := .jpHl) .jumpHl, fun e row hrow s => ?relative⟩
  case absolute =>
    obtain ⟨cc, hval, hexec⟩ := decode_exec_conditionRows [some .nz, none, some .z, some .nc, some .c]
      (.jump · nn) condition rfl rfl row hrow
    rw [← hval]
    exact (hexec s).imp_right (·.trans (runOp_jump cc nn s))
  case relative =>
    obtain ⟨cc, hval, hexec⟩ := decode_exec_conditionRows [none, some .nz, some .z, some .nc, some .c]
      (.jumpRel · e) condition rfl rfl row hrow
    rw [← hval]
    exact (hexec s).imp_right (·.trans (runOp_jumpRel cc e s))

/-- Settles O21: each row of CALL and RET is the call or the return of a condition, and RST calls its target. -/
theorem callsAndReturns : Obligations.CallsAndReturns := by
  refine ⟨fun nn row hrow s => ?call, fun row hrow s => ?rst, fun row hrow s => ?ret,
    decode_exec_of_shape (i := .reti) .reti⟩
  case call =>
    obtain ⟨cc, hval, hexec⟩ := decode_exec_conditionRows [some .nz, some .z, none, some .nc, some .c]
      (.call · nn) condition rfl rfl row hrow
    rw [← hval]
    exact (hexec s).imp_right (·.trans (runOp_call cc nn s))
  case rst =>
    exact (decode_exec_rows .rst rfl row hrow s).imp_right (·.trans (callTo_eq row.2.2 16 s))
  case ret =>
    obtain ⟨cc, hval, hexec⟩ := decode_exec_conditionRows [some .nz, some .z, none, some .nc, some .c]
      .ret (fun cc => (condition cc, retCost cc)) rfl rfl row hrow
    rw [← hval]
    exact (hexec s).imp_right (·.trans (runOp_ret cc s))

end Sys2Proof.Proofs
end

section
/-! PREFIX CB, HALT, STOP, DI, EI and the undefined opcodes (R290 to R295). -/

namespace Sys2Proof.Machine

/-- The prefixed map and the fields of the second byte select the same operation: one case for each second byte (R129, R131,
R300). -/
theorem shape_prefixedInstr (op2 : Byte) : shape (prefixedInstr op2) = shape (.prefixCb op2) := by
  obtain ⟨k, hk, rfl⟩ : ∃ k < 256, op2 = BitVec.ofNat 8 k := ⟨op2.toNat, op2.isLt, (BitVec.ofNat_toNat 8 op2).symm⟩
  interval_cases k <;> rfl

/-- Each of the eight operations that the fields can select completes, so no second byte faults (R294). -/
theorem execPrefixCb_completes (op2 : Byte) (s : State) : ∃ t, execPrefixCb op2 s = .next t := by
  unfold execPrefixCb
  dsimp only
  split <;> exact ⟨_, rfl⟩

/-- From an instruction of one byte, the state in which the run ends is the one after the fetch (R295). -/
theorem raiseUnimplemented_one (op : Byte) (s : State) :
    raiseUnimplemented op 1 s = .fault (.unimplementedOpcode op (s.cpu.pc - 1) s) := by
  rw [raiseUnimplemented, BitVec.sub_add_cancel]
  rfl

/-- From an instruction of two bytes, PC steps back over the second one (R291). -/
theorem raiseUnimplemented_two (op : Byte) (s : State) : raiseUnimplemented op 2 s =
    .fault (.unimplementedOpcode op (s.cpu.pc - 2) { s with cpu := { s.cpu with pc := s.cpu.pc - 1 } }) := by
  have hpc : s.cpu.pc - 2 + 1 = s.cpu.pc - 1 := by bv_omega
  rw [raiseUnimplemented, hpc]
  rfl

/-- Where STOP_MODE is halt, STOP is HALT (R291). -/
theorem execStop_of_halt (n : Byte) {s : State} (h : s.cfg.stopMode = .halt) : execStop n s = complete s.halt 4 := by
  rw [execStop, h]

/-- Where STOP_MODE is fault, STOP raises the fault of a first byte with no instruction (R291). -/
theorem execStop_of_fault (n : Byte) {s : State} (h : s.cfg.stopMode = .fault) :
    execStop n s = raiseUnimplemented 0x10 2 s := by
  rw [execStop, h]

end Sys2Proof.Machine

namespace Sys2Proof.Proofs

open Sys2Proof.Machine Sys2Proof.Claims

/-- Settles O5: the two instructions have one shape, and the operation of that shape completes. -/
theorem prefixRowRunsSelected : Obligations.PrefixRowRunsSelected := by
  refine fun op2 s => ⟨?_, execPrefixCb_completes op2 s⟩
  rw [exec_eq_run, exec_eq_run, shape_prefixedInstr]

/-- Settles O22: HALT, DI and EI by their shapes, STOP by the two cases of STOP_MODE. -/
theorem haltStopDiEi : Obligations.HaltStopDiEi := by
  refine ⟨fun s => decode_exec_of_shape .halt (s := s), fun s => decode_exec_of_shape .di (s := s),
    fun s => decode_exec_of_shape .ei (s := s), fun n s => ?stop⟩
  case stop =>
    obtain ⟨hdecode, hexec⟩ := decode_exec_of_shape (i := .stop n) .stop (s := s)
    exact ⟨hdecode, fun hmode => hexec.trans (execStop_of_halt 0 hmode),
      fun hmode => (hexec.trans (execStop_of_fault 0 hmode)).trans (raiseUnimplemented_two 0x10 s)⟩

/-- Settles O23: each row is the undefined shape of its byte, an instruction of one byte. -/
theorem undefinedOpcodesFault : Obligations.UndefinedOpcodesFault := by
  have hbytes : ∀ row ∈ undefinedRows, row.1 = [row.2.2] := by decide
  intro row hrow s
  obtain ⟨hdecode, hexec⟩ := decode_exec_rows .undefined rfl row hrow s
  exact ⟨hdecode, hbytes row hrow, hexec.trans (raiseUnimplemented_one row.2.2 s)⟩

end Sys2Proof.Proofs
end

section
/-! The prefixed rotates, shifts and SWAP, and BIT, RES and SET (R300 to R322): a bit cleared or set in numbers, and the tables
that pair each operation or bit with each register. -/

namespace Sys2Proof.Machine

open Sys2Proof.Claims

/-- What a rotate, shift or SWAP writes is a byte (R301 to R316). -/
theorem shifted_lt (op : ShiftOp) (v : Byte) (c : Bool) : shifted op.number v.toNat c.toNat < 256 := by
  have hv := v.isLt
  have hc := c.toNat_le
  cases op <;> simp only [shifted, ShiftOp.number] <;> omega

/-- The flags of a rotate, shift or SWAP in numbers (R300 to R316). -/
theorem shiftFlags_shift8 (op : ShiftOp) (v : Byte) (c : Bool) : (shiftFlags (shift8 op v c).1 (shift8 op v c).2).toByte =
    flagByte (decide (shifted op.number v.toNat c.toNat = 0)) false false (shiftedOut op.number v.toNat) := by
  have hz : (BitVec.ofNat 8 (shifted op.number v.toNat c.toNat) == 0) = decide (shifted op.number v.toNat c.toNat = 0) := by
    rw [beq_eq_decide, decide_eq_decide, ← BitVec.toNat_inj, BitVec.toNat_ofNat, Nat.mod_eq_of_lt (shifted_lt op v c)]
    rfl
  rw [shiftFlags, Flags.toByte_eq_flagByte, shift8_carry, shift8_eq_shifted, hz]

theorem shiftReg_eq (op : ShiftOp) (x : Reg) (s : State) : shiftReg op x s = .next (after s
    { s.cpu.setReg x (BitVec.ofNat 8 (shifted op.number (s.cpu.reg x).toNat (carry s))) with
      f := flagByte (decide (shifted op.number (s.cpu.reg x).toNat (carry s) = 0)) false false
        (shiftedOut op.number (s.cpu.reg x).toNat) } 8) := by
  rw [carry, ← shiftFlags_shift8, ← shift8_eq_shifted]
  rfl

theorem shiftMem_eq (op : ShiftOp) (s : State) : shiftMem op s = .next (after
    (memWrite s s.hl (BitVec.ofNat 8 (shifted op.number (memRead s s.hl).toNat (carry s)))) { s.cpu with
      f := flagByte (decide (shifted op.number (memRead s s.hl).toNat (carry s) = 0)) false false
        (shiftedOut op.number (memRead s s.hl).toNat) } 16) := by
  rw [carry, ← shiftFlags_shift8, ← shift8_eq_shifted]
  exact complete_memWrite_setFlags ..

/-- The flags of BIT in numbers (R317). -/
theorem bitFlags_toByte (b : Fin 8) (v : Byte) (f : Flags) :
    (bitFlags b v f).toByte = flagByte (decide (v.toNat / 2 ^ b.val % 2 = 0)) false true f.c := by
  rw [bitFlags, Flags.toByte_eq_flagByte, ← getLsbD_toNat]
  cases v.getLsbD b.val <;> rfl

theorem testBitReg_eq (b : Fin 8) (x : Reg) (s : State) : testBitReg b x s = .next (after s { s.cpu with
    f := flagByte (decide ((s.cpu.reg x).toNat / 2 ^ b.val % 2 = 0)) false true s.cpu.flags.c } 8) := by
  rw [← bitFlags_toByte]
  rfl

theorem testBitMem_eq (b : Fin 8) (s : State) : testBitMem b s = .next (after s { s.cpu with
    f := flagByte (decide ((memRead s s.hl).toNat / 2 ^ b.val % 2 = 0)) false true s.cpu.flags.c } 12) := by
  rw [← bitFlags_toByte]
  rfl

section SingleBit

variable {w i : Nat} {v : BitVec w}

theorem twoPow_eq_ofNat (w i : Nat) : BitVec.twoPow w i = BitVec.ofNat w (2 ^ i) :=
  BitVec.eq_of_toNat_eq (BitVec.toNat_twoPow w i)

/-- To set a set bit changes nothing (R321). -/
theorem or_twoPow_of_set (h : v.getLsbD i = true) : v ||| BitVec.twoPow w i = v := by
  ext j hj
  rw [BitVec.getElem_or, BitVec.getElem_twoPow]
  rcases eq_or_ne j i with rfl | hne
  · simp [← BitVec.getLsbD_eq_getElem, h]
  · simp [hne]

/-- To set a clear bit is to add its power of two: the two words share no bit (R321). -/
theorem or_twoPow_of_clear (h : v.getLsbD i = false) : v ||| BitVec.twoPow w i = v + BitVec.twoPow w i :=
  (BitVec.add_eq_or_of_and_eq_zero _ _ (by simp [BitVec.and_twoPow, h])).symm

/-- To clear a clear bit changes nothing (R319). -/
theorem and_not_twoPow_of_clear (h : v.getLsbD i = false) : v &&& ~~~BitVec.twoPow w i = v := by
  ext j hj
  rw [BitVec.getElem_and, BitVec.getElem_not, BitVec.getElem_twoPow]
  rcases eq_or_ne j i with rfl | hne
  · simp [← BitVec.getLsbD_eq_getElem, h]
  · simp [hne]

/-- To clear a set bit is to subtract its power of two: added again, it gives the word back (R319). -/
theorem and_not_twoPow_of_set (h : v.getLsbD i = true) : v &&& ~~~BitVec.twoPow w i = v - BitVec.twoPow w i := by
  have hdisjoint : v &&& ~~~BitVec.twoPow w i &&& BitVec.twoPow w i = 0#w := by simp [BitVec.and_assoc]
  have hcover : v &&& ~~~BitVec.twoPow w i ||| BitVec.twoPow w i = v ||| BitVec.twoPow w i := by
    ext j hj
    simp [Bool.or_and_distrib_right]
  rw [BitVec.eq_sub_iff_add_eq, BitVec.add_eq_or_of_and_eq_zero _ _ hdisjoint, hcover, or_twoPow_of_set h]

end SingleBit

/-- RES in numbers (R319). -/
theorem resetBit_eq (v : Byte) (b : Fin 8) :
    v &&& ~~~(1#8 <<< b.val) = BitVec.ofNat 8 (v.toNat - 2 ^ b.val * (v.toNat / 2 ^ b.val % 2)) := by
  rw [← BitVec.twoPow_eq, ← getLsbD_toNat]
  cases h : v.getLsbD b.val with
  | false => simp [and_not_twoPow_of_clear h]
  | true =>
    have hle : 2 ^ b.val ≤ v.toNat := Nat.ge_two_pow_of_testBit h
    have hlt : 2 ^ b.val < 2 ^ 8 := Nat.pow_lt_pow_right (by decide) b.isLt
    rw [and_not_twoPow_of_set h, twoPow_eq_ofNat, Bool.toNat_true, Nat.mul_one, ← BitVec.ofNat_sub_ofNat_of_le _ _ hlt hle,
      BitVec.ofNat_toNat, BitVec.setWidth_eq]

/-- SET in numbers (R321). -/
theorem setBit_eq (v : Byte) (b : Fin 8) :
    v ||| 1#8 <<< b.val = BitVec.ofNat 8 (v.toNat + 2 ^ b.val * (1 - v.toNat / 2 ^ b.val % 2)) := by
  rw [← BitVec.twoPow_eq, ← getLsbD_toNat]
  cases h : v.getLsbD b.val with
  | false =>
    rw [or_twoPow_of_clear h, twoPow_eq_ofNat, Bool.toNat_false, Nat.sub_zero, Nat.mul_one, BitVec.ofNat_add,
      BitVec.ofNat_toNat, BitVec.setWidth_eq]
  | true => simp [or_twoPow_of_set h]

theorem resetBitReg_eq (b : Fin 8) (x : Reg) (s : State) : resetBitReg b x s = .next (after s (s.cpu.setReg x
    (BitVec.ofNat 8 ((s.cpu.reg x).toNat - 2 ^ b.val * ((s.cpu.reg x).toNat / 2 ^ b.val % 2)))) 8) := by
  rw [← resetBit_eq]
  rfl

theorem resetBitMem_eq (b : Fin 8) (s : State) : resetBitMem b s = .next (after (memWrite s s.hl
    (BitVec.ofNat 8 ((memRead s s.hl).toNat - 2 ^ b.val * ((memRead s s.hl).toNat / 2 ^ b.val % 2)))) s.cpu 16) := by
  rw [← resetBit_eq, resetBitMem, complete_eq_after, memWrite_cpu]

theorem setBitReg_eq (b : Fin 8) (x : Reg) (s : State) : setBitReg b x s = .next (after s (s.cpu.setReg x
    (BitVec.ofNat 8 ((s.cpu.reg x).toNat + 2 ^ b.val * (1 - (s.cpu.reg x).toNat / 2 ^ b.val % 2)))) 8) := by
  rw [← setBit_eq]
  rfl

theorem setBitMem_eq (b : Fin 8) (s : State) : setBitMem b s = .next (after (memWrite s s.hl
    (BitVec.ofNat 8 ((memRead s s.hl).toNat + 2 ^ b.val * (1 - (memRead s s.hl).toNat / 2 ^ b.val % 2)))) s.cpu 16) := by
  rw [← setBit_eq, setBitMem, complete_eq_after, memWrite_cpu]

/-- The rotates, shifts and SWAP in the order of their numbers (R129). -/
def shiftOps : List ShiftOp := [.rlc, .rrc, .rl, .rr, .sla, .sra, .swap, .srl]

/-- The bit numbers in the order of the opcodes (R317 to R322). -/
def bitNumbers : List (Fin 8) := [0, 1, 2, 3, 4, 5, 6, 7]

/-- Each operation or bit with each register, in the order of the opcodes, those of the byte at HL left out (R300). -/
def withRegisters {β : Type} (l : List β) : List (β × Reg) := l.product [.b, .c, .d, .e, .h, .l, .a]

/-- The rows of a table of listed operands: the hypotheses compare it with the encoder, and with the shape and the value of
each operand, row by row. -/
theorem decode_exec_listedRows {α β : Type} {rows : List (List Byte × Instr × α)} (xs : List β) (op : β → Op) (val : β → α)
    (hbytes : rows.map (fun row => (row.2.1.wellFormed, encode row.2.1)) = rows.map (fun row => (true, row.1)))
    (hshapes : rows.map (fun row => (shape row.2.1, row.2.2)) = xs.map (fun x => (op x, val x))) :
    ∀ row ∈ rows, ∃ x, val x = row.2.2 ∧
      ∀ s : State, decode row.1 = .ok (row.2.1, []) ∧ exec row.2.1 s = runOp s (op x) := by
  intro row hrow
  obtain ⟨hi, hbs⟩ := by simpa only [Prod.mk.injEq] using List.map_inj_left.mp hbytes row hrow
  obtain ⟨x, -, hx⟩ := List.mem_map.mp (hshapes ▸ List.mem_map_of_mem hrow)
  obtain ⟨ho, hval⟩ := Prod.mk.inj hx
  exact ⟨x, hval, decode_exec_of_shape (op x) hi hbs ho.symm⟩

end Sys2Proof.Machine

namespace Sys2Proof.Proofs

open Sys2Proof.Machine Sys2Proof.Claims

/-- Settles O24: each row is the shift of its operation, on a register or on the byte at HL. -/
theorem shifts : Obligations.Shifts := by
  refine ⟨fun row hrow s => ?register, fun row hrow s => ?memory⟩
  case register =>
    obtain ⟨⟨op, x⟩, hval, hexec⟩ := decode_exec_listedRows (withRegisters shiftOps)
      (fun p => .shift p.1 (some p.2)) (fun p => (p.1.number, p.2)) rfl rfl row hrow
    rw [← hval]
    exact (hexec s).imp_right (·.trans (shiftReg_eq op x s))
  case memory =>
    obtain ⟨op, hval, hexec⟩ := decode_exec_listedRows shiftOps (.shift · none) ShiftOp.number rfl rfl row hrow
    rw [← hval]
    exact (hexec s).imp_right (·.trans (shiftMem_eq op s))

/-- Settles O25: each row is the test, the clearing or the setting of its bit, in a register or in the byte at HL. -/
theorem bitResSet : Obligations.BitResSet := by
  refine ⟨fun row hrow s => ?bitReg, fun row hrow s => ?bitMem, fun row hrow s => ?resReg, fun row hrow s => ?resMem,
    fun row hrow s => ?setReg, fun row hrow s => ?setMem⟩
  case bitReg =>
    obtain ⟨⟨b, x⟩, hval, hexec⟩ := decode_exec_listedRows (withRegisters bitNumbers)
      (fun p => .testBit p.1 (some p.2)) (fun p => (p.1.val, p.2)) rfl rfl row hrow
    rw [← hval]
    exact (hexec s).imp_right (·.trans (testBitReg_eq b x s))
  case bitMem =>
    obtain ⟨b, hval, hexec⟩ := decode_exec_listedRows bitNumbers (.testBit · none) Fin.val rfl rfl row hrow
    rw [← hval]
    exact (hexec s).imp_right (·.trans (testBitMem_eq b s))
  case resReg =>
    obtain ⟨⟨b, x⟩, hval, hexec⟩ := decode_exec_listedRows (withRegisters bitNumbers)
      (fun p => .resetBit p.1 (some p.2)) (fun p => (p.1.val, p.2)) rfl rfl row hrow
    rw [← hval]
    exact (hexec s).imp_right (·.trans (resetBitReg_eq b x s))
  case resMem =>
    obtain ⟨b, hval, hexec⟩ := decode_exec_listedRows bitNumbers (.resetBit · none) Fin.val rfl rfl row hrow
    rw [← hval]
    exact (hexec s).imp_right (·.trans (resetBitMem_eq b s))
  case setReg =>
    obtain ⟨⟨b, x⟩, hval, hexec⟩ := decode_exec_listedRows (withRegisters bitNumbers)
      (fun p => .setBit p.1 (some p.2)) (fun p => (p.1.val, p.2)) rfl rfl row hrow
    rw [← hval]
    exact (hexec s).imp_right (·.trans (setBitReg_eq b x s))
  case setMem =>
    obtain ⟨b, hval, hexec⟩ := decode_exec_listedRows bitNumbers (.setBit · none) Fin.val rfl rfl row hrow
    rw [← hval]
    exact (hexec s).imp_right (·.trans (setBitMem_eq b s))

end Sys2Proof.Proofs
end

section
/-! The cycle counts (R571): the cost of every shape, of the dispatch and of the idle step. -/

namespace Sys2Proof.Machine

variable {s : State}

/-- The six counts of R571. -/
def validCycles : List Nat := [4, 8, 12, 16, 20, 24]

/-- A load or store, whose cost is an argument of its shape, has one of the six. -/
def Op.hasValidCycles : Op → Bool
  | .load _ _ cost | .store _ _ cost => decide (cost ∈ validCycles)
  | _ => true

theorem shape_hasValidCycles (i : Instr) : (shape i).hasValidCycles = true := by
  cases i
  case prefixCb op2 => revert op2; decide
  all_goals rfl

theorem Src.cost_mem (src : Src) : src.cost ∈ validCycles := by
  cases src <;> simp [Src.cost, validCycles]

theorem haltIdleCycles_mem (c : Config) : c.haltIdleCycles ∈ validCycles := by
  unfold Config.haltIdleCycles
  generalize c.haltIdleIndex = k
  revert k
  decide

theorem runOp_cycles {o : Op} (ho : o.hasValidCycles = true) : Keeps (fun t => t.out.cycles ∈ validCycles) (runOp s o) := by
  have done {t : State} {n : Nat} (hn : n ∈ validCycles) : Keeps (fun t => t.out.cycles ∈ validCycles) (complete t n) :=
    .complete hn
  cases o with
  | undefined op => rintro t ⟨⟩
  | stop => exact execStop_keeps (n := 0) (by decide : 4 ∈ validCycles)
  | load dst a cost | store a src cost => exact done (of_decide_eq_true ho)
  | alu op src | compare src => exact done src.cost_mem
  | inc x | dec x | shift op x | testBit b x | resetBit b x | setBit b x => cases x <;> exact done (by decide)
  | jump cc nn | jumpRel cc e | call cc nn | ret cc =>
    cases cc; exacts [done (by decide), .ite (done (by decide)) (done (by decide))]
  | _ => exact done (by decide)

theorem executeStep_cycles : Keeps (fun t => t.out.cycles ∈ validCycles) (executeStep s) := by
  obtain ⟨-, -, h⟩ | ⟨-, -, h⟩ | ⟨-, -, h⟩ := executeStep_cases s <;> rw [h]
  · rintro t ⟨⟩
    exact (by decide : 20 ∈ validCycles)
  · rintro t ⟨⟩
    exact haltIdleCycles_mem s.cfg
  · intro t ht
    rw [keepHalted_next, executeFetched, exec_eq_run] at ht
    exact runOp_cycles (shape_hasValidCycles _) t ht

end Sys2Proof.Machine

namespace Sys2Proof.Proofs

open Sys2Proof.Machine

/-- Settles O54: the cost of each of the three cases of `executeStep`; no engine writes the count. -/
theorem cycleCounts : Obligations.CycleCounts := by
  refine ⟨fun s t ht => executeStep_cycles t ht, fun s t u ht hu => ?_⟩
  obtain ⟨t', ht', rfl⟩ := step_next hu
  obtain rfl : t = t' := by simpa [ht] using ht'
  obtain ⟨-, -, -, -, hcycles⟩ := advanceEngines_keeps t t.out.cycles
  exact hcycles

end Sys2Proof.Proofs
end

section
/-! The three cases of `executeStep` in full (R340 to R343): the dispatch, and the instruction fetched. -/

namespace Sys2Proof.Machine

open Sys2Proof.Claims

variable {s : State} {b : Fin 5}

/-- Of the pending set only five bits can be set: those of the sources enabled and requested (R339). -/
theorem pending_getLsbD (s : State) {i : Nat} (hi : i < 5) :
    (pending s).getLsbD i = (s.mem.read 0xFFFF &&& s.mem.read 0xFF0F).getLsbD i := by
  rw [pending, BitVec.getLsbD_and]
  interval_cases i <;> simp

theorem pending_ne_zero (h : (pending s).getLsbD b = true) : pending s ≠ 0 := by
  intro h0
  simp [h0] at h

/-- The source taken is the lowest pending one (R342). -/
theorem lowestSource_eq {p : Byte} (hb : p.getLsbD b = true) (hlow : ∀ j, j < b.val → p.getLsbD j = false) :
    lowestSource p = b := by
  have key : ∀ (p : Byte) (b : Fin 5), p.getLsbD b = true → (∀ j : Fin 5, j < b → p.getLsbD j = false) →
    lowestSource p = b := by decide
  exact key p b hb fun j hj => hlow j hj

/-- A pending set that is not 0 has a lowest source (R342). -/
theorem lowestSource_spec (h : pending s ≠ 0) : (pending s).getLsbD (lowestSource (pending s)) = true ∧
    ∀ j, j < (lowestSource (pending s)).val → (pending s).getLsbD j = false := by
  have key : ∀ p : Byte, p &&& 0x1F ≠ 0 → (p &&& 0x1F).getLsbD (lowestSource (p &&& 0x1F)) = true ∧
    ∀ j : Fin 5, j < lowestSource (p &&& 0x1F) → (p &&& 0x1F).getLsbD j = false := by decide
  obtain ⟨hb, hlow⟩ := key (s.mem.read 0xFFFF &&& s.mem.read 0xFF0F) h
  exact ⟨hb, fun j hj => hlow ⟨j, by omega⟩ hj⟩

/-- The vector in numbers (R338). -/
theorem interruptVector_eq (b : Fin 5) : interruptVector b = BitVec.ofNat 16 (0x0040 + 8 * b.val) := by
  revert b
  decide

/-- The state after the dispatch of a source (R341). -/
def dispatched (b : Fin 5) (s : State) : State := after
  (memWrite (memWrite (s.setMem 0xFF0F (s.mem.read 0xFF0F &&& ~~~(1#8 <<< b.val))) (s.cpu.sp - 1) (hi8 s.cpu.pc))
    (s.cpu.sp - 2) (lo8 s.cpu.pc))
  { s.cpu with ime := false, halted := false, sp := s.cpu.sp - 2, pc := BitVec.ofNat 16 (0x0040 + 8 * b.val) } 20

/-- The halted flag is clear where the Processor goes on, and whether it was woken does not matter (R340). -/
theorem wake_of_running (h : s.cpu.halted = false ∨ pending s ≠ 0) :
    wake s = { s with cpu := { s.cpu with halted := false } } := by
  have hwake : (s.cpu.halted && pending s == 0) = false := by
    rcases h with h | h
    · rw [h, Bool.false_and]
    · rw [beq_false_of_ne h, Bool.and_false]
  rw [wake, hwake]

/-- A push whose Processor is changed before it. -/
theorem push16_withCpu (s : State) (p : Processor) (w : Word) : push16 { s with cpu := p } w =
    { memWrite (memWrite s (p.sp - 1) (hi8 w)) (p.sp - 2) (lo8 w) with cpu := { p with sp := p.sp - 2 } } := by
  rw [push16_eq, memWrite_withCpu s p, memWrite_withCpu (memWrite s _ _) p]

/-- A bus write does not look at the Processor, so it does not matter when IME and the halted flag are cleared (R341). -/
theorem takeInterrupt_wake (b : Fin 5) (h : pending s ≠ 0) : takeInterrupt b (wake s) = dispatched b s := by
  rw [wake_of_running (.inr h)]
  have hpush := push16_withCpu (s.setMem 0xFF0F (s.mem.read 0xFF0F &&& ~~~(1#8 <<< b.val)))
    { s.cpu with ime := false, halted := false } s.cpu.pc
  calc takeInterrupt b { s with cpu := { s.cpu with halted := false } }
      = ((push16 { s.setMem 0xFF0F (s.mem.read 0xFF0F &&& ~~~(1#8 <<< b.val)) with
          cpu := { s.cpu with ime := false, halted := false } } s.cpu.pc).setPc (interruptVector b)).withCycles 20 := rfl
    _ = dispatched b s := by rw [hpush, interruptVector_eq]; rfl

theorem executeStep_dispatch (hime : s.cpu.ime = true) (hb : (pending s).getLsbD b = true)
    (hlow : ∀ j, j < b.val → (pending s).getLsbD j = false) : executeStep s = .next (dispatched b s) := by
  have hp := pending_ne_zero hb
  obtain ⟨-, -, h⟩ | ⟨h0, -, -⟩ | ⟨h0 | hime', -, -⟩ := executeStep_cases s
  · rw [h, lowestSource_eq hb hlow, takeInterrupt_wake b hp]
  · exact absurd h0 hp
  · exact absurd h0 hp
  · simp [hime] at hime'

/-- The state in which the fetched instruction executes: PC past its bytes, the halted flag clear (R26, R340). -/
def pastFetch (s : State) : State :=
  { s with cpu := { s.cpu with pc := s.cpu.pc + BitVec.ofNat 16 (fetchedLength s), halted := false } }

theorem executeStep_fetch (hirq : pending s = 0 ∨ s.cpu.ime = false) (hrun : s.cpu.halted = false ∨ pending s ≠ 0) :
    executeStep s = keepHalted s.cpu.halted (exec (fetched s) (pastFetch s)) := by
  obtain ⟨hp, hime, -⟩ | ⟨hp, hhalted, -⟩ | ⟨-, -, h⟩ := executeStep_cases s
  · obtain hirq | hirq := hirq
    · exact absurd hirq hp
    · simp [hime] at hirq
  · simp [hp, hhalted] at hrun
  · rw [h, wake_of_running hrun]
    rfl

theorem executeStep_idle (hp : pending s = 0) (hhalted : s.cpu.halted = true) :
    executeStep s = .next (after s s.cpu s.cfg.haltIdleCycles) := by
  obtain ⟨hp', -, -⟩ | ⟨-, -, h⟩ | ⟨-, hrun, -⟩ := executeStep_cases s
  · exact absurd hp hp'
  · have hwake : (s.cpu.halted && pending s == 0) = s.cpu.halted := by rw [hp, hhalted]; rfl
    rw [h, wake, hwake]
    rfl
  · simp [hp, hhalted] at hrun

end Sys2Proof.Machine

namespace Sys2Proof.Proofs

open Sys2Proof.Machine Sys2Proof.Claims

/-- Settles O27: the source is the lowest pending one, and the dispatch its two bus writes. -/
theorem interruptDispatch : Obligations.InterruptDispatch := by
  intro s b hime hb hlow
  refine executeStep_dispatch hime ?_ fun j hj => ?_
  · rw [pending_getLsbD s b.isLt, hb]
  · rw [pending_getLsbD s (by omega), hlow j hj]

/-- Settles O28: the three cases of `executeStep` for a halted Processor. -/
theorem haltedSteps : Obligations.HaltedSteps := by
  intro s hhalted
  refine ⟨fun hp => ⟨executeStep_idle hp hhalted, haltIdleCycles_mem s.cfg, rfl⟩, fun hp hime => ?_, fun hp hime => ?_⟩
  · obtain ⟨hb, hlow⟩ := lowestSource_spec hp
    exact ⟨_, hb, hlow, executeStep_dispatch hime hb hlow⟩
  · have hstep := executeStep_fetch (.inr hime) (.inr hp)
    rw [hhalted] at hstep
    refine ⟨fun t ht => ?_, fun op addr u hu => ?_⟩
    · rw [hstep, keepHalted_next]
      exact ht
    · rw [hstep, ← keepHalted_fault true]
      exact congrArg _ hu

/-- Settles O26: the fetch of `executeStep`, and the three outcomes of the instruction. -/
theorem stepRunsFetched : Obligations.StepRunsFetched := by
  rintro s i b0 b1 b2 hirq hrun rfl rfl rfl rfl
  unfold step
  rw [executeStep_fetch hirq hrun]
  show _ = match exec (fetched s) (pastFetch s) with
    | .next t => _
    | .fault (.unimplementedOpcode op addr u) => _
    | .refused r => _
  rcases exec (fetched s) (pastFetch s) with t | ⟨op, addr, u⟩ | r <;> rfl

end Sys2Proof.Proofs
end

section
/-! What can stop a step (R291, R295, R330): the undefined shapes and STOP, by the first byte fetched. -/

namespace Sys2Proof.Machine

open Sys2Proof.Claims

variable {s : State} {b0 : Byte}

/-- The shapes that may not complete. -/
def Op.mayStop : Op → Bool
  | .undefined _ | .stop => true
  | _ => false

theorem runOp_completes (s : State) {o : Op} (ho : o.mayStop = false) : ∃ t, runOp s o = .next t := by
  have ite {c : Prop} [Decidable c] {t u : State} {n m : Nat} : ∃ v, (if c then complete t n else complete u m) = .next v := by
    split <;> exact ⟨_, rfl⟩
  cases o with
  | undefined | stop => cases ho
  | inc x | dec x | shift op x | testBit b x | resetBit b x | setBit b x => cases x <;> exact ⟨_, rfl⟩
  | jump cc nn | jumpRel cc e | call cc nn | ret cc => cases cc; exacts [⟨_, rfl⟩, ite]
  | _ => exact ⟨_, rfl⟩

/-- The eleven first bytes with no instruction (R295). -/
def undefinedBytes : List Byte := [0xD3, 0xDB, 0xDD, 0xE3, 0xE4, 0xEB, 0xEC, 0xED, 0xF4, 0xFC, 0xFD]

theorem encode_of_mayStop {i : Instr} (hi : i.wellFormed = true) (h : (shape i).mayStop = true) :
    ∃ b bs, encode i = b :: bs ∧ (b ∈ undefinedBytes ∨ b = 0x10) := by
  cases i
  case prefixCb => cases hi
  case stop n => exact ⟨0x10, [n], rfl, .inr rfl⟩
  case undefinedD3 | undefinedDB | undefinedDD | undefinedE3 | undefinedE4 | undefinedEB | undefinedEC | undefinedED | undefinedF4 |
      undefinedFC | undefinedFD => exact ⟨_, [], rfl, .inl (by decide)⟩
  all_goals cases h

/-- Every other first byte begins an instruction that completes. -/
theorem mayStop_decodeBytes (h : b0 ∉ undefinedBytes) (hstop : b0 ≠ 0x10) (b1 b2 : Byte) :
    (shape (decodeBytes b0 b1 b2)).mayStop = false := by
  by_contra hmay
  obtain ⟨hi, henc⟩ := Proofs.encodeOfDecode b0 b1 b2
  obtain ⟨b, bs, hb, hmem⟩ := encode_of_mayStop hi (by simpa using hmay)
  obtain ⟨bs', htake, -⟩ := decodeBytes_reads b0 b1 b2
  obtain ⟨rfl, -⟩ : b = b0 ∧ bs = bs' := by simpa [hb, htake] using henc
  exact hmem.elim h hstop

theorem shape_decodeBytes_undefined (h : b0 ∈ undefinedBytes) (b1 b2 : Byte) :
    shape (decodeBytes b0 b1 b2) = .undefined b0 ∧ (firstByte b0).length = 1 := by
  simp only [undefinedBytes, List.mem_cons, List.not_mem_nil, or_false] at h
  obtain rfl | rfl | rfl | rfl | rfl | rfl | rfl | rfl | rfl | rfl | rfl := h <;> exact ⟨rfl, rfl⟩

/-- The instruction at PC stops the machine (R291, R295). -/
def stopsAtPc (s : State) : Prop :=
  memRead s s.cpu.pc ∈ undefinedBytes ∨ memRead s s.cpu.pc = 0x10 ∧ s.cfg.stopMode = .fault

/-- The fault of the opcode at PC: in the state in which the run ends PC is one past it (R330). -/
def stopFault (s : State) : Fault :=
  .unimplementedOpcode (memRead s s.cpu.pc) s.cpu.pc { s with cpu := { s.cpu with pc := s.cpu.pc + 1 } }

/-- An instruction of any length that raises the fault names its own address (R330). -/
theorem raiseUnimplemented_pastFetch (op : Byte) :
    raiseUnimplemented op (BitVec.ofNat 16 (fetchedLength s)) (pastFetch s) =
      .fault (.unimplementedOpcode op s.cpu.pc { s with cpu := { s.cpu with pc := s.cpu.pc + 1, halted := false } }) := by
  have hpc : (pastFetch s).cpu.pc - BitVec.ofNat 16 (fetchedLength s) = s.cpu.pc := BitVec.add_sub_cancel ..
  rw [raiseUnimplemented, hpc]
  rfl

theorem exec_pastFetch_stops (h : stopsAtPc s) : exec (fetched s) (pastFetch s) =
    .fault (.unimplementedOpcode (memRead s s.cpu.pc) s.cpu.pc
      { s with cpu := { s.cpu with pc := s.cpu.pc + 1, halted := false } }) := by
  rw [exec_eq_run, ← raiseUnimplemented_pastFetch]
  obtain h | ⟨h, hmode⟩ := h
  · obtain ⟨hshape, hlen⟩ := shape_decodeBytes_undefined h (memRead s (s.cpu.pc + 1)) (memRead s (s.cpu.pc + 2))
    rw [fetched, hshape, fetchedLength, hlen]
    rfl
  · rw [fetched, fetchedLength, h]
    exact execStop_of_fault 0 hmode

theorem exec_pastFetch_completes (h : ¬ stopsAtPc s) : ∃ t, exec (fetched s) (pastFetch s) = .next t := by
  obtain ⟨hundef, hstop⟩ := not_or.1 h
  rw [exec_eq_run]
  by_cases h10 : memRead s s.cpu.pc = 0x10
  · have hmode : s.cfg.stopMode = .halt := by
      cases hm : s.cfg.stopMode with
      | fault => exact absurd ⟨h10, hm⟩ hstop
      | halt => rfl
    rw [fetched, h10]
    exact ⟨_, execStop_of_halt 0 hmode⟩
  · exact runOp_completes _ (mayStop_decodeBytes hundef h10 _ _)

/-- The step fetches an instruction: it takes no interrupt and is not left halted (R340). -/
def fetches (s : State) : Prop := (pending s = 0 ∨ s.cpu.ime = false) ∧ (s.cpu.halted = false ∨ pending s ≠ 0)

theorem executeStep_stops (h : fetches s) (hstop : stopsAtPc s) : executeStep s = .fault (stopFault s) := by
  rw [executeStep_fetch h.1 h.2, exec_pastFetch_stops hstop, keepHalted_fault]
  rfl

theorem executeStep_completes (h : ¬ (fetches s ∧ stopsAtPc s)) : ∃ t, executeStep s = .next t := by
  obtain ⟨-, -, hnext⟩ | ⟨-, -, hnext⟩ | ⟨hirq, hrun, -⟩ := executeStep_cases s
  · exact ⟨_, hnext⟩
  · exact ⟨_, hnext⟩
  · obtain ⟨t, ht⟩ := exec_pastFetch_completes fun hstop => h ⟨⟨hirq, hrun⟩, hstop⟩
    exact ⟨t, by rw [executeStep_fetch hirq hrun, ht, keepHalted]⟩

theorem step_of_next {t : State} (h : executeStep s = .next t) : step s = .next (advanceEngines t.out.cycles t) := by
  rw [step, h]

theorem step_of_fault {f : Fault} (h : executeStep s = .fault f) : step s = .fault f := by
  rw [step, h]

end Sys2Proof.Machine

namespace Sys2Proof.Proofs

open Sys2Proof.Machine

/-- Settles O29: the step either fetches an opcode that stops and ends in its fault, or completes. -/
theorem onlyUnimplementedOpcodesStop : Obligations.OnlyUnimplementedOpcodesStop := by
  intro s
  by_cases h : fetches s ∧ stopsAtPc s
  · obtain ⟨hfetch, hstop⟩ := h
    have hstep : step s = .fault (stopFault s) := step_of_fault (executeStep_stops hfetch hstop)
    rw [hstep]
    refine ⟨nofun, fun f => ⟨?_, ?_⟩⟩
    · rintro ⟨⟩
      exact ⟨hfetch.1, hfetch.2, hstop, rfl⟩
    · rintro ⟨-, -, -, rfl⟩
      rfl
  · obtain ⟨t, ht⟩ := executeStep_completes h
    rw [step_of_next ht]
    exact ⟨nofun, fun f => ⟨nofun, fun ⟨hirq, hrun, hstop, _⟩ => absurd ⟨⟨hirq, hrun⟩, hstop⟩ h⟩⟩

end Sys2Proof.Proofs
end

section
/-! The registers that an engine leaves in the raw byte array (R386, R410): two of its own, and the interrupts requested in
IF. -/

namespace Sys2Proof.Machine

/-- Two different registers of an engine, neither of them IF. -/
structure EngineRegs (p q : Nat) : Prop where
  p_lt : p < 0x10000
  q_lt : q < 0x10000
  p_ne_q : p ≠ q
  p_ne_if : p ≠ 0xFF0F
  q_ne_if : q ≠ 0xFF0F

/-- The raw byte array with the two registers of an engine written and interrupts requested in IF. -/
def withRegs (p q : Nat) (m : Memory) (x y request : Byte) : Memory :=
  ((m.write p x).write q y).write 0xFF0F (m.read 0xFF0F ||| request)

namespace EngineRegs

variable {p q : Nat} (hr : EngineRegs p q) {m : Memory} (hm : m.wf) (x y request : Byte)

include hr hm

theorem wf : (withRegs p q m x y request).wf :=
  Memory.wf_write (Memory.wf_write (Memory.wf_write hm hr.p_lt _) hr.q_lt _) (by decide) _

theorem read (a : Nat) : (withRegs p q m x y request).read a =
    if a = 0xFF0F then m.read 0xFF0F ||| request else if a = q then y else if a = p then x else m.read a := by
  have hp := Memory.wf_write hm hr.p_lt x
  have hq := Memory.wf_write hp hr.q_lt y
  rw [withRegs, Memory.read_write hq, Memory.read_write hp, Memory.read_write hm]
  simp only [eq_comm (a := a)]

theorem read_if : (withRegs p q m x y request).read 0xFF0F = m.read 0xFF0F ||| request := by
  rw [hr.read hm, if_pos rfl]

theorem read_q : (withRegs p q m x y request).read q = y := by
  rw [hr.read hm, if_neg hr.q_ne_if, if_pos rfl]

theorem read_p : (withRegs p q m x y request).read p = x := by
  rw [hr.read hm, if_neg hr.p_ne_if, if_neg hr.p_ne_q, if_pos rfl]

theorem read_other {a : Nat} (hp : a ≠ p) (hq : a ≠ q) (hif : a ≠ 0xFF0F) :
    (withRegs p q m x y request).read a = m.read a := by
  rw [hr.read hm, if_neg hif, if_neg hq, if_neg hp]

variable {x y request}

/-- A canonical array is known by what it reads at the three registers and elsewhere. -/
theorem ext {n : Memory} (hn : n.wf) (hif : n.read 0xFF0F = m.read 0xFF0F ||| request) (hq : n.read q = y) (hp : n.read p = x)
    (hother : ∀ a, a ≠ p → a ≠ q → a ≠ 0xFF0F → n.read a = m.read a) : n = withRegs p q m x y request := by
  refine Memory.ext hn (hr.wf hm ..) fun a => ?_
  rw [hr.read hm]
  split_ifs with h1 h2 h3
  · rw [h1, hif]
  · rw [h2, hq]
  · rw [h3, hp]
  · exact hother a h3 h2 h1

theorem self : withRegs p q m (m.read p) (m.read q) 0 = m :=
  (hr.ext hm hm BitVec.or_zero.symm rfl rfl fun _ _ _ _ => rfl).symm

theorem twice (x' y' request' : Byte) :
    withRegs p q (withRegs p q m x y request) x' y' request' = withRegs p q m x' y' (request ||| request') := by
  have hwf := hr.wf hm x y request
  refine hr.ext hm (hr.wf hwf ..) ?_ (hr.read_q hwf ..) (hr.read_p hwf ..) fun a h1 h2 h3 => ?_
  · rw [hr.read_if hwf, hr.read_if hm, BitVec.or_assoc]
  · rw [hr.read_other hwf _ _ _ h1 h2 h3, hr.read_other hm _ _ _ h1 h2 h3]

theorem write_p (x' : Byte) : (withRegs p q m x y request).write p x' = withRegs p q m x' y request := by
  have hwf := hr.wf hm x y request
  refine hr.ext hm (Memory.wf_write hwf hr.p_lt _) ?_ ?_ ?_ fun a h1 h2 h3 => ?_
  · rw [Memory.read_write hwf, if_neg hr.p_ne_if, hr.read_if hm]
  · rw [Memory.read_write hwf, if_neg hr.p_ne_q, hr.read_q hm]
  · rw [Memory.read_write hwf, if_pos rfl]
  · rw [Memory.read_write hwf, if_neg h1.symm, hr.read_other hm _ _ _ h1 h2 h3]

theorem write_q (y' : Byte) : (withRegs p q m x y request).write q y' = withRegs p q m x y' request := by
  have hwf := hr.wf hm x y request
  refine hr.ext hm (Memory.wf_write hwf hr.q_lt _) ?_ ?_ ?_ fun a h1 h2 h3 => ?_
  · rw [Memory.read_write hwf, if_neg hr.q_ne_if, hr.read_if hm]
  · rw [Memory.read_write hwf, if_pos rfl]
  · rw [Memory.read_write hwf, if_neg hr.p_ne_q.symm, hr.read_p hm]
  · rw [Memory.read_write hwf, if_neg h2.symm, hr.read_other hm _ _ _ h1 h2 h3]

/-- A further request is added to those made (R334). -/
theorem request_if (r : Byte) : (withRegs p q m x y request).write 0xFF0F ((withRegs p q m x y request).read 0xFF0F ||| r) =
    withRegs p q m x y (request ||| r) := by
  have hwf := hr.wf hm x y request
  refine hr.ext hm (Memory.wf_write hwf (by decide) _) ?_ ?_ ?_ fun a h1 h2 h3 => ?_
  · rw [Memory.read_write hwf, if_pos rfl, hr.read_if hm, BitVec.or_assoc]
  · rw [Memory.read_write hwf, if_neg hr.q_ne_if.symm, hr.read_q hm]
  · rw [Memory.read_write hwf, if_neg hr.p_ne_if.symm, hr.read_p hm]
  · rw [Memory.read_write hwf, if_neg h3.symm, hr.read_other hm _ _ _ h1 h2 h3]

/-- Two engines with different registers may write theirs in either order: their requests are gathered in IF. -/
theorem comm {p' q' : Nat} (hr' : EngineRegs p' q') (hpp : p ≠ p') (hpq : p ≠ q') (hqp : q ≠ p') (hqq : q ≠ q')
    (x' y' request' : Byte) : withRegs p' q' (withRegs p q m x y request) x' y' request' =
      withRegs p q (withRegs p' q' m x' y' request') x y request := by
  have hwf := hr.wf hm x y request
  have hwf' := hr'.wf hm x' y' request'
  refine hr.ext hwf' (hr'.wf hwf ..) ?_ ?_ ?_ fun a h1 h2 h3 => ?_
  · rw [hr'.read_if hwf, hr.read_if hm, hr'.read_if hm, BitVec.or_assoc, BitVec.or_assoc, BitVec.or_comm request]
  · rw [hr'.read_other hwf _ _ _ hqp hqq hr.q_ne_if, hr.read_q hm]
  · rw [hr'.read_other hwf _ _ _ hpp hpq hr.p_ne_if, hr.read_p hm]
  · rw [hr'.read hwf, hr'.read hm, if_neg h3, if_neg h3, hr.read_other hm _ _ _ h1 h2 h3]

end EngineRegs

end Sys2Proof.Machine
end

section
/-! The timer engine in closed form (R386, R387): its two counts, and the three registers it leaves. -/

namespace Sys2Proof.Machine

open Sys2Proof.Claims

variable {s : State}

theorem timerRegs : EngineRegs 0xFF04 0xFF05 := ⟨by decide, by decide, by decide, by decide, by decide⟩

/-- The request of an overflow of TIMA (R387). -/
def timerRequest (overflow : Bool) : Byte := if overflow then 0x04 else 0x00

/-- One increment of TIMA on the register and whether it has overflowed (R386, R387). -/
def timaNext (tma : Byte) (p : Byte × Bool) : Byte × Bool := if p.1 = 0xFF then (tma, true) else (p.1 + 1, p.2)

theorem timaTicks_succ (tma : Byte) (n : Nat) (p : Byte × Bool) :
    timaTicks tma (n + 1) p = timaTicks tma n (timaNext tma p) := rfl

theorem timaTicks_add (tma : Byte) (a b : Nat) (p : Byte × Bool) :
    timaTicks tma (a + b) p = timaTicks tma b (timaTicks tma a p) := by
  induction a generalizing p with
  | zero => rw [Nat.zero_add]; rfl
  | succ a ih => rw [Nat.add_right_comm, timaTicks_succ, ih, timaTicks_succ]

/-- An overflow before the increments is kept, and plays no part in them. -/
theorem timaTicks_overflow (tma : Byte) (n : Nat) (tima : Byte) (overflow : Bool) : timaTicks tma n (tima, overflow) =
    ((timaTicks tma n (tima, false)).1, overflow || (timaTicks tma n (tima, false)).2) := by
  induction n generalizing tima overflow with
  | zero => simp [timaTicks]
  | succ n ih =>
    rw [timaTicks_succ, timaTicks_succ, timaNext, timaNext]
    split
    · rw [ih tma true, Bool.true_or, Bool.or_true]
    · exact ih (tima + 1) overflow

/-- Below 0xFF the increments count up and overflow nothing (R386). -/
theorem timaTicks_of_lt (tma tima : Byte) {n : Nat} (h : tima.toNat + n < 256) :
    timaTicks tma n (tima, false) = (tima + BitVec.ofNat 8 n, false) := by
  induction n generalizing tima with
  | zero => simp [timaTicks]
  | succ n ih =>
    have hne : tima ≠ 0xFF := by
      rintro rfl
      have : (0xFF : Byte).toNat = 255 := rfl
      omega
    have hnext : (tima + 1).toNat = tima.toNat + 1 := by
      rw [BitVec.toNat_add]
      exact Nat.mod_eq_of_lt (by simp; omega)
    rw [timaTicks_succ, timaNext, if_neg hne]
    dsimp only
    rw [ih _ (by omega), Nat.add_comm n, BitVec.ofNat_add, ← BitVec.add_assoc]
    rfl

theorem timerRequest_or (a b : Bool) : timerRequest a ||| timerRequest b = timerRequest (a || b) := by
  revert a b
  decide

/-- What TIMA counts in `c` cycles: the accumulator left and the increments, none while the timer is disabled (R384, R386). -/
def timaCount (m : Memory) (acc c : Nat) : Nat × Nat :=
  if (m.read 0xFF07).getLsbD 2 then countUp (timerPeriod (m.read 0xFF07)) acc c else (acc, 0)

theorem timerPeriod_pos (tac : Byte) : 0 < timerPeriod tac := by
  unfold timerPeriod
  split <;> decide

theorem timaCount_add (m : Memory) (acc a b : Nat) : timaCount m acc (a + b) =
    ((timaCount m (timaCount m acc a).1 b).1, (timaCount m acc a).2 + (timaCount m (timaCount m acc a).1 b).2) := by
  unfold timaCount
  split
  · exact countUp_add _ acc a b (timerPeriod_pos _)
  · rfl

/-- TIMA and its overflow after `c` cycles (R386). -/
def timaAfter (m : Memory) (acc c : Nat) : Byte × Bool :=
  timaTicks (m.read 0xFF06) (timaCount m acc c).2 (m.read 0xFF05, false)

theorem timaTick_withRegs {m : Memory} (hm : m.wf) (s : State) (div : Byte) (p : Byte × Bool) :
    timaTick { s with mem := withRegs 0xFF04 0xFF05 m div p.1 (timerRequest p.2) } =
      { s with
        mem := withRegs 0xFF04 0xFF05 m div (timaNext (m.read 0xFF06) p).1 (timerRequest (timaNext (m.read 0xFF06) p).2) } := by
  have htima := timerRegs.read_q hm div p.1 (timerRequest p.2)
  have htma := timerRegs.read_other hm div p.1 (timerRequest p.2) (a := 0xFF06) (by decide) (by decide) (by decide)
  unfold timaTick timaNext
  simp only [htima, htma, requestInterrupt_eq, State.setMem, timerRegs.write_q hm]
  split
  · have hor : timerRequest p.2 ||| 0x04 = timerRequest true := by rw [← Bool.or_true p.2, ← timerRequest_or]; rfl
    rw [timerRegs.request_if hm, ← hor]
    rfl
  · rfl

theorem iterate_timaTick {m : Memory} (hm : m.wf) (s : State) (div : Byte) (n : Nat) (p : Byte × Bool) :
    timaTick^[n] { s with mem := withRegs 0xFF04 0xFF05 m div p.1 (timerRequest p.2) } =
      { s with
        mem := withRegs 0xFF04 0xFF05 m div (timaTicks (m.read 0xFF06) n p).1
          (timerRequest (timaTicks (m.read 0xFF06) n p).2) } := by
  induction n generalizing p with
  | zero => rfl
  | succ n ih => rw [Function.iterate_succ_apply, timaTick_withRegs hm, ih, timaTicks_succ]

/-- The increments of DIV leave it higher by their number (R386). -/
theorem iterate_divTick (hs : s.mem.wf) (n : Nat) : (fun t => t.setMem 0xFF04 (t.mem.read 0xFF04 + 1))^[n] s =
    { s with mem := withRegs 0xFF04 0xFF05 s.mem (s.mem.read 0xFF04 + BitVec.ofNat 8 n) (s.mem.read 0xFF05) 0 } := by
  induction n with
  | zero => rw [BitVec.add_zero, timerRegs.self hs]; rfl
  | succ n ih =>
    rw [Function.iterate_succ_apply', ih]
    simp only [State.setMem]
    rw [timerRegs.read_p hs, timerRegs.write_p hs, BitVec.ofNat_add, BitVec.add_assoc]
    rfl

theorem advanceTima_eq (s : State) (c : Nat) : advanceTima s c = timaTick^[(timaCount s.mem s.timer.timaAcc c).2]
    { s with timer := { s.timer with timaAcc := (timaCount s.mem s.timer.timaAcc c).1 } } := by
  unfold advanceTima timaCount
  dsimp only
  split <;> rfl

theorem advanceDiv_eq (hs : s.mem.wf) (c : Nat) : advanceDiv s c =
    { s with
      timer := { s.timer with divAcc := (s.timer.divAcc + c) % 256 }
      mem := withRegs 0xFF04 0xFF05 s.mem (s.mem.read 0xFF04 + BitVec.ofNat 8 ((s.timer.divAcc + c) / 256))
        (s.mem.read 0xFF05) 0 } :=
  iterate_divTick (s := { s with timer := { s.timer with divAcc := (s.timer.divAcc + c) % 256 } }) hs _

/-- Both accumulators after `c` cycles (R386). -/
def timerUnitAfter (m : Memory) (t : TimerUnit) (c : Nat) : TimerUnit :=
  { divAcc := (t.divAcc + c) % 256, timaAcc := (timaCount m t.timaAcc c).1 }

/-- The raw byte array after `c` cycles of the timer engine (R386, R387). -/
def timerMemAfter (m : Memory) (t : TimerUnit) (c : Nat) : Memory :=
  withRegs 0xFF04 0xFF05 m (m.read 0xFF04 + BitVec.ofNat 8 ((t.divAcc + c) / 256)) (timaAfter m t.timaAcc c).1
    (timerRequest (timaAfter m t.timaAcc c).2)

theorem timaCount_congr {m n : Memory} (h : n.read 0xFF07 = m.read 0xFF07) (acc c : Nat) :
    timaCount n acc c = timaCount m acc c := by
  rw [timaCount, timaCount, h]

/-- The timer engine changes its accumulators and its registers, in a way that they and the array alone decide. -/
theorem advanceTimers_eq (hs : s.mem.wf) (c : Nat) :
    advanceTimers c s = { s with timer := timerUnitAfter s.mem s.timer c, mem := timerMemAfter s.mem s.timer c } := by
  have hcount := timaCount_congr (timerRegs.read hs
    (s.mem.read 0xFF04 + BitVec.ofNat 8 ((s.timer.divAcc + c) / 256)) (s.mem.read 0xFF05) 0 0xFF07) s.timer.timaAcc c
  rw [advanceTimers, advanceDiv_eq hs, advanceTima_eq]
  dsimp only
  rw [hcount]
  exact iterate_timaTick hs { s with timer := timerUnitAfter s.mem s.timer c } _ _ (s.mem.read 0xFF05, false)

/-- TIMA and its overflow do not depend on how the cycles are split (R388). -/
theorem timaAfter_add (m : Memory) (acc a b : Nat) :
    timaTicks (m.read 0xFF06) (timaCount m (timaCount m acc a).1 b).2 (timaAfter m acc a) = timaAfter m acc (a + b) := by
  rw [timaAfter, timaAfter, ← timaTicks_add, timaCount_add]

section After

variable {m : Memory} (hm : m.wf) (t : TimerUnit) (a b : Nat)

include hm

theorem wf_timerMemAfter : (timerMemAfter m t a).wf := timerRegs.wf hm ..

theorem timerUnitAfter_add :
    timerUnitAfter (timerMemAfter m t a) (timerUnitAfter m t a) b = timerUnitAfter m t (a + b) := by
  simp only [timerUnitAfter, TimerUnit.mk.injEq]
  refine ⟨by omega, ?_⟩
  rw [timaCount_add, timaCount_congr (n := timerMemAfter m t a) (timerRegs.read hm ..)]

theorem timerMemAfter_add :
    timerMemAfter (timerMemAfter m t a) (timerUnitAfter m t a) b = timerMemAfter m t (a + b) := by
  have hread : ∀ c, (timerMemAfter m t a).read c = _ := timerRegs.read hm _ _ _
  have hdiv : (timerMemAfter m t a).read 0xFF04 = m.read 0xFF04 + BitVec.ofNat 8 ((t.divAcc + a) / 256) := hread _
  have htima : (timerMemAfter m t a).read 0xFF05 = (timaAfter m t.timaAcc a).1 := hread _
  have htma : (timerMemAfter m t a).read 0xFF06 = m.read 0xFF06 := hread _
  have hcount : timaCount (timerMemAfter m t a) (timaCount m t.timaAcc a).1 b = _ := timaCount_congr (hread _) _ _
  have hdivs : (t.divAcc + (a + b)) / 256 = (t.divAcc + a) / 256 + ((t.divAcc + a) % 256 + b) / 256 := by omega
  have hsecond : timaAfter (timerMemAfter m t a) (timaCount m t.timaAcc a).1 b =
      timaTicks (m.read 0xFF06) (timaCount m (timaCount m t.timaAcc a).1 b).2 ((timaAfter m t.timaAcc a).1, false) := by
    rw [timaAfter, hcount, htma, htima]
  have hboth : timaAfter m t.timaAcc (a + b) =
      ((timaAfter (timerMemAfter m t a) (timaCount m t.timaAcc a).1 b).1,
        (timaAfter m t.timaAcc a).2 || (timaAfter (timerMemAfter m t a) (timaCount m t.timaAcc a).1 b).2) := by
    rw [hsecond, ← timaAfter_add]
    exact timaTicks_overflow ..
  rw [timerMemAfter, hdiv, timerUnitAfter, timerMemAfter, timerRegs.twice hm, timerRequest_or, timerMemAfter, hboth,
    hdivs, BitVec.ofNat_add, ← BitVec.add_assoc]
  rfl

end After

/-- Bits 1 and 0 of TAC in numbers (R385). -/
theorem timerPeriod_eq (tac : Byte) : timerPeriod tac = [1024, 16, 64, 256].getD (tac.toNat % 4) 0 := by
  have hbits : (tac.extractLsb' 0 2).toNat = tac.toNat % 4 := by simp [BitVec.extractLsb'_toNat]
  have hlt := Nat.mod_lt tac.toNat (by decide : 0 < 4)
  rw [timerPeriod, hbits]
  interval_cases tac.toNat % 4 <;> rfl

theorem timaCount_of_disabled {m : Memory} (h : (m.read 0xFF07).toNat / 4 % 2 = 0) (acc c : Nat) :
    timaCount m acc c = (acc, 0) := by
  have hbit : (m.read 0xFF07).getLsbD 2 = false := Bool.toNat_eq_zero.1 ((getLsbD_toNat ..).trans h)
  rw [timaCount, hbit]
  rfl

theorem timaCount_of_enabled {m : Memory} (h : (m.read 0xFF07).toNat / 4 % 2 = 1) (acc c : Nat) :
    timaCount m acc c = countUp (timerPeriod (m.read 0xFF07)) acc c := by
  have hbit : (m.read 0xFF07).getLsbD 2 = true := Bool.toNat_eq_one.1 ((getLsbD_toNat ..).trans h)
  rw [timaCount, hbit]
  rfl

end Sys2Proof.Machine

namespace Sys2Proof.Proofs

open Sys2Proof.Machine Sys2Proof.Claims

/-- Settles O41: the closed form of the engine, at the counts of each clause. -/
theorem timerOverflow : Obligations.TimerOverflow := by
  intro s c hs tac period t tima requested
  have ht : t = _ := advanceTimers_eq hs c
  have hread : ∀ a, t.mem.read a = _ := fun a => (congrArg (·.mem.read a) ht).trans (timerRegs.read hs _ _ _ a)
  have hdiv : t.timer.divAcc = (s.timer.divAcc + c) % 256 := by rw [ht]; rfl
  have hacc : t.timer.timaAcc = (timaCount s.mem s.timer.timaAcc c).1 := by rw [ht]; rfl
  have hperiod : timerPeriod (s.mem.read 0xFF07) = period := timerPeriod_eq _
  have hpos : 0 < period := hperiod ▸ timerPeriod_pos _
  have hrequest (p : Byte × Bool) : s.mem.read 0xFF0F ||| timerRequest p.2 = requested p.2 := by
    cases p.2
    · exact BitVec.or_zero
    · rfl
  -- what the engine leaves when TIMA counts to `p` and its accumulator to `n`
  have hcount (n : Nat × Nat) (h : timaCount s.mem s.timer.timaAcc c = n) :
      t.mem.read 0xFF05 = (timaTicks (s.mem.read 0xFF06) n.2 (tima, false)).1 ∧
      t.mem.read 0xFF0F = requested (timaTicks (s.mem.read 0xFF06) n.2 (tima, false)).2 ∧ t.timer.timaAcc = n.1 := by
    subst h
    exact ⟨hread _, (hread _).trans (hrequest _), hacc⟩
  have hon (h : tac / 4 % 2 = 1) : timaCount s.mem s.timer.timaAcc c = countUp period s.timer.timaAcc c :=
    (timaCount_of_enabled h _ _).trans (by rw [hperiod])
  refine ⟨⟨hread _, hdiv⟩, fun hoff => hcount _ (timaCount_of_disabled hoff _ _), fun h => hcount _ (hon h), fun h hlt => ?_,
    fun h hge hlt => ?_, fun h h8 h16 hc hlt => ?_, fun h h500 hlt => ?_, fun a h4 h5 hf => ?_, by rw [ht]⟩
  · exact hcount _ ((hon h).trans (countUp_stop hlt))
  · have hone := hcount _ ((hon h).trans (countUp_turn hpos hge))
    rw [countUp_stop (by omega)] at hone
    obtain ⟨htima, hif, hleft⟩ := hone
    refine ⟨htima.trans ?_, hif.trans ?_, hleft⟩
    · exact apply_ite Prod.fst ..
    · refine congrArg requested ((apply_ite Prod.snd ..).trans ?_)
      split
      · exact (decide_eq_true ‹_›).symm
      · exact (decide_eq_false ‹_›).symm
  · have h16' : period = 16 := by simp only [period, show tac % 4 = 1 by omega]; rfl
    have htwo : countUp period s.timer.timaAcc c = (s.timer.timaAcc - 8, 2) := by
      rw [h16', hc, countUp, Prod.mk.injEq]
      omega
    have hcounted := hcount _ ((hon (by omega)).trans htwo)
    rwa [timaTicks_of_lt _ _ (by omega)] at hcounted
  · have h16' : period = 16 := by simp only [period, show tac % 4 = 1 by omega]; rfl
    have hdrained : countUp period s.timer.timaAcc c = ((4 + c) % 16, 31 + (4 + c) / 16) := by
      rw [h16', h500, countUp, Prod.mk.injEq]
      omega
    have hcounted := hcount _ ((hon (by omega)).trans hdrained)
    rwa [timaTicks_of_lt _ _ (by omega)] at hcounted
  · rw [hread, if_neg hf, if_neg h5, if_neg h4]

/-- Settles O42: the counts of the closed form add up, and an overflow in the first part stays requested. -/
theorem timerInsensitiveToSplit : Obligations.TimerInsensitiveToSplit := by
  intro s a b hs
  rw [advanceTimers_eq hs, advanceTimers_eq (wf_timerMemAfter hs s.timer a), advanceTimers_eq hs, timerUnitAfter_add hs,
    timerMemAfter_add hs]

end Sys2Proof.Proofs
end

section
/-! What the compositor reads (R420 to R427): video RAM, the sprite table and the registers of the picture, none of which an
engine writes. -/

namespace Sys2Proof.Machine

/-- The cells that the timer engine and the PixelUnit write: DIV, TIMA, IF, STAT and LY. -/
def engineCells : List Nat := [0xFF04, 0xFF05, 0xFF0F, 0xFF41, 0xFF44]

/-- Two raw byte arrays that differ only in what the engines write. -/
def SameButEngines (m n : Memory) : Prop := ∀ a, a ∉ engineCells → m.read a = n.read a

namespace SameButEngines

variable {m n : Memory} (h : SameButEngines m n)

include h

theorem low {a : Nat} (ha : a < 0xFF00) : m.read a = n.read a := by
  refine h a fun hmem => ?_
  simp only [engineCells, List.mem_cons, List.not_mem_nil, or_false] at hmem
  omega

theorem tileIndex {base r : Nat} (hbase : base + 2 * r + 1 < 0xFF00) (k : Nat) :
    tileIndex m base r k = tileIndex n base r k := by
  rw [Machine.tileIndex, Machine.tileIndex, h.low (by omega), h.low (by omega)]

theorem lcdc : m.read 0xFF40 = n.read 0xFF40 := h _ (by decide)

theorem mapPosition (cache : Vector (Byte × Byte) 154) (x y : Nat) : mapPosition m cache x y = mapPosition n cache x y := by
  rw [Machine.mapPosition, Machine.mapPosition, useWindow, useWindow, h.lcdc, h 0xFF4A (by decide), h 0xFF4B (by decide)]

end SameButEngines

theorem tileMapBase_le (high : Bool) : tileMapBase high ≤ 0x9C00 := by
  cases high <;> decide

/-- A place on the screen lies inside a tile map (R421). -/
theorem mapPosition_lt (m : Memory) (cache : Vector (Byte × Byte) 154) {x y : Nat} (hx : x < 160) (hy : y < 144) :
    (mapPosition m cache x y).1 ≤ 0x9C00 ∧ (mapPosition m cache x y).2.1 < 256 ∧ (mapPosition m cache x y).2.2 < 256 := by
  unfold mapPosition
  split
  · exact ⟨tileMapBase_le _, by dsimp only; omega, by dsimp only; omega⟩
  · exact ⟨tileMapBase_le _, Nat.mod_lt _ (by decide), Nat.mod_lt _ (by decide)⟩

theorem tileDataAddr_le (unsigned : Bool) (tileNo : Byte) : tileDataAddr unsigned tileNo ≤ 0x97F0 := by
  have hlt := tileNo.isLt
  have hint : tileNo.toInt ≤ 127 := by have := BitVec.toInt_lt (x := tileNo); omega
  unfold tileDataAddr
  split <;> omega

theorem spriteHeight_le (m : Memory) : spriteHeight m = 8 ∨ spriteHeight m = 16 := by
  unfold spriteHeight
  split <;> simp

namespace SameButEngines

variable {m n : Memory} (h : SameButEngines m n)

include h

theorem bgIndex (cache : Vector (Byte × Byte) 154) {x y : Nat} (hx : x < 160) (hy : y < 144) :
    bgIndex m cache x y = bgIndex n cache x y := by
  obtain ⟨hbase, hpx, hpy⟩ := mapPosition_lt n cache hx hy
  unfold Machine.bgIndex
  rw [h.lcdc, h.mapPosition]
  split
  · dsimp only
    have htile : m.read _ = n.read ((Machine.mapPosition n cache x y).1 + (Machine.mapPosition n cache x y).2.2 / 8 * 32 +
        (Machine.mapPosition n cache x y).2.1 / 8) := h.low (by omega)
    rw [htile]
    refine h.tileIndex ?_ _
    have := tileDataAddr_le ((n.read 0xFF40).getLsbD 4) (n.read ((Machine.mapPosition n cache x y).1 +
      (Machine.mapPosition n cache x y).2.2 / 8 * 32 + (Machine.mapPosition n cache x y).2.1 / 8))
    omega
  · rfl

theorem spriteIndex {i : Nat} (hi : i < 40) (x y : Nat) : spriteIndex m x y i = spriteIndex n x y i := by
  have hheight := spriteHeight_le n
  have hsame : spriteHeight m = spriteHeight n := by rw [spriteHeight, spriteHeight, h.lcdc]
  unfold Machine.spriteIndex
  dsimp only
  rw [hsame, h.low (a := 0xFE00 + 4 * i) (by omega), h.low (a := 0xFE00 + 4 * i + 1) (by omega),
    h.low (a := 0xFE00 + 4 * i + 2) (by omega), h.low (a := 0xFE00 + 4 * i + 3) (by omega)]
  split
  · rfl
  · split
    · rfl
    · refine congrArg some (h.tileIndex ?_ _)
      have hand : (n.read (0xFE00 + 4 * i + 2) &&& 0xFE).toNat ≤ 254 := by
        rw [BitVec.toNat_and]
        exact Nat.and_le_right
      have hlt := (n.read (0xFE00 + 4 * i + 2)).isLt
      split_ifs <;> omega

theorem spriteScan (bg : BitVec 2) (x y : Nat) {l : List Nat} (hl : ∀ i ∈ l, i < 40) :
    spriteScan m bg x y l = spriteScan n bg x y l := by
  induction l with
  | nil => rfl
  | cons i l ih =>
    have hi := hl i (by simp)
    rw [Machine.spriteScan, Machine.spriteScan, h.spriteIndex hi, ih fun j hj => hl j (by simp [hj]),
      h.low (a := 0xFE00 + 4 * i + 3) (by omega), h 0xFF48 (by decide), h 0xFF49 (by decide)]

theorem pixel (cache : Vector (Byte × Byte) 154) {x y : Nat} (hx : x < 160) (hy : y < 144) :
    pixel m cache x y = pixel n cache x y := by
  rw [Machine.pixel, Machine.pixel, spriteShade, spriteShade, h.bgIndex cache hx hy, h.lcdc, h 0xFF47 (by decide),
    h.spriteScan _ _ _ fun i hi => List.mem_range.1 hi]

/-- No cell that an engine writes shows in the picture (R420). -/
theorem renderFrame (cache : Vector (Byte × Byte) 154) : renderFrame m cache = renderFrame n cache := by
  unfold Machine.renderFrame
  refine List.filterMap_congr fun i hi => ?_
  have hlt := List.mem_range.1 hi
  rw [h.pixel cache (Nat.mod_lt _ (by decide)) (by omega)]

end SameButEngines

end Sys2Proof.Machine
end

section
/-! The PixelUnit on its registers alone (R410 to R418): the operations of its step as functions of LY, STAT, the requests made and
its own state, and that the step does these on the state. -/

namespace Sys2Proof.Machine

variable {s : State} {v : Byte}

/-- What the PixelUnit has made of its registers and its own state in the course of a step. -/
structure Video where
  ly : Byte
  stat : Byte
  request : Byte
  unit : PixelUnit
  presented : Option Frame

/-- The state in which the PixelUnit has done this. -/
def Video.on (v : Video) (s : State) : State :=
  { s with
    mem := withRegs 0xFF44 0xFF41 s.mem v.ly v.stat v.request
    ppu := v.unit
    out := { s.out with presented := v.presented } }

theorem videoRegs : EngineRegs 0xFF44 0xFF41 := ⟨by decide, by decide, by decide, by decide, by decide⟩

/-- At the beginning of a step nothing has been written, requested or presented. -/
def Video.start (m : Memory) (u : PixelUnit) : Video :=
  { ly := m.read 0xFF44, stat := m.read 0xFF41, request := 0, unit := u, presented := none }

/-- The interrupt enable of STAT for entering a mode; draw has none (R411). -/
def Mode.fires (stat : Byte) : Mode → Bool
  | .hblank => stat.getLsbD 3
  | .vblank => stat.getLsbD 4
  | .oamSearch => stat.getLsbD 5
  | .draw => false

/-- STAT with the mode bits of a mode (R402). -/
def modeStat (stat : Byte) (mode : Mode) : Byte := stat.extractLsb' 2 6 ++ mode.number

/-- The request of interrupt 1, if it is made. -/
def statRequest (fires : Bool) : Byte := if fires then 0x02 else 0x00

/-- `enterMode(m)` (R411). -/
def Video.enter (v : Video) (mode : Mode) : Video :=
  { v with
    stat := modeStat v.stat mode
    request := v.request ||| statRequest (mode.fires v.stat)
    unit := { v.unit with mode := mode } }

/-- STAT after the comparison of LY with LYC (R415). -/
def comparedStat (stat : Byte) (hit : Bool) : Byte := if hit then stat ||| 0x04 else stat &&& ~~~0x04#8

/-- `LY <- n; compareLine()` (R415). -/
def Video.line (v : Video) (n lyc : Byte) : Video :=
  { v with
    ly := n
    stat := comparedStat v.stat (decide (n = lyc))
    request := v.request ||| statRequest (decide (n = lyc) && v.stat.getLsbD 6) }

/-- `snapshot(n)` (R416). -/
def Video.snapshot (v : Video) (m : Memory) (n : Nat) : Video :=
  { v with unit := { v.unit with scrollCache := v.unit.scrollCache.setIfInBounds n (m.read 0xFF43, m.read 0xFF42) } }

/-- The request of interrupt 0 and the frame presented on entering V-blank (R412, R413). -/
def Video.present (v : Video) (m : Memory) : Video :=
  { v with
    request := v.request ||| 0x01
    unit := { v.unit with frame := renderFrame m v.unit.scrollCache }
    presented := some (renderFrame m v.unit.scrollCache) }

/-- `clock <- n` (R410). -/
def Video.clock (v : Video) (n : Nat) : Video := { v with unit := { v.unit with clock := n } }

/-- The end of a mode (R410). -/
def Video.modeEnd (v : Video) (m : Memory) : Video :=
  match v.unit.mode with
  | .oamSearch => v.enter .draw
  | .draw => v.enter .hblank
  | .hblank =>
    if v.ly + 1 = 144 then ((v.line (v.ly + 1) (m.read 0xFF45)).enter .vblank).present m
    else ((v.line (v.ly + 1) (m.read 0xFF45)).snapshot m (v.ly + 1).toNat).enter .oamSearch
  | .vblank =>
    if v.ly + 1 = 154 then ((v.line 0 (m.read 0xFF45)).snapshot m 0).enter .oamSearch
    else v.line (v.ly + 1) (m.read 0xFF45)

/-- The LCD is off (R418). -/
def Video.off (v : Video) : Video :=
  { v with ly := 0, stat := modeStat v.stat .hblank, unit := { v.unit with mode := .hblank, clock := 0 } }

/-- `PixelUnit.step(c)` (R410). -/
def videoStep (c : Nat) (m : Memory) (u : PixelUnit) : Video :=
  if (m.read 0xFF40).getLsbD 7 then
    if u.clock + c < u.mode.budget then (Video.start m u).clock (u.clock + c)
    else ((Video.start m u).clock (u.clock + c - u.mode.budget)).modeEnd m
  else (Video.start m u).off

theorem modeStat_getLsbD (stat : Byte) (mode : Mode) (i : Nat) :
    (modeStat stat mode).getLsbD i = if i < 2 then mode.number.getLsbD i else stat.getLsbD i := by
  rw [modeStat, BitVec.getLsbD_append]
  split
  · rfl
  · rw [BitVec.getLsbD_extractLsb', Nat.add_sub_cancel' (by omega)]
    rcases Nat.lt_or_ge i 8 with h | h
    · rw [decide_eq_true (by omega), Bool.true_and]
    · rw [BitVec.getLsbD_of_ge _ _ h, Bool.and_false]

/-- Setting the mode bits leaves the interrupt enables (R402). -/
theorem fires_modeStat (stat : Byte) (m m' : Mode) : m.fires (modeStat stat m') = m.fires stat := by
  cases m with
  | draw => rfl
  | hblank | vblank | oamSearch => exact modeStat_getLsbD ..

theorem or_statRequest_false (r : Byte) : r ||| statRequest false = r := BitVec.or_zero

section OnState

variable (hs : s.mem.wf) (v : Video)

include hs

theorem wf_on : (v.on s).mem.wf := videoRegs.wf hs ..

theorem ly_on : (v.on s).mem.read 0xFF44 = v.ly := videoRegs.read_p hs ..

theorem stat_on : (v.on s).mem.read 0xFF41 = v.stat := videoRegs.read_q hs ..

theorem read_on {a : Nat} (hly : a ≠ 0xFF44) (hstat : a ≠ 0xFF41) (hif : a ≠ 0xFF0F) : (v.on s).mem.read a = s.mem.read a :=
  videoRegs.read_other hs _ _ _ hly hstat hif

theorem setStat_on (stat : Byte) : (v.on s).setMem 0xFF41 stat = { v with stat := stat }.on s := by
  simp only [State.setMem, Video.on, videoRegs.write_q hs]

theorem setLine_on (n : Byte) : setLine n (v.on s) = { v with ly := n }.on s := by
  simp only [setLine, State.setMem, Video.on, videoRegs.write_p hs]

theorem requestInterrupt_on (b : Fin 5) :
    requestInterrupt (v.on s) b = { v with request := v.request ||| (1#8 <<< b.val) }.on s := by
  simp only [requestInterrupt_eq, State.setMem, Video.on, videoRegs.request_if hs]

/-- A request that is made only in some cases. -/
theorem requestIf_on (fires : Bool) : (if fires then requestInterrupt (v.on s) 1 else v.on s) =
    { v with request := v.request ||| statRequest fires }.on s := by
  cases fires
  · rw [or_statRequest_false, if_neg Bool.false_ne_true]
  · exact requestInterrupt_on hs v 1

theorem enterMode_on (mode : Mode) : enterMode mode (v.on s) = (v.enter mode).on s := by
  have hset : setStatMode { v.on s with ppu := { (v.on s).ppu with mode := mode } } mode =
      { v with stat := modeStat v.stat mode, unit := { v.unit with mode := mode } }.on s := by
    rw [setStatMode, show ({ v.on s with ppu := { (v.on s).ppu with mode := mode } } : State).mem.read 0xFF41 = v.stat from
      stat_on hs v]
    exact setStat_on hs { v with unit := { v.unit with mode := mode } } _
  unfold enterMode
  rw [hset]
  dsimp only
  rw [stat_on hs]
  refine Eq.trans ?_ (requestIf_on hs { v with stat := modeStat v.stat mode, unit := { v.unit with mode := mode } } _)
  rw [← fires_modeStat v.stat mode mode]
  cases mode <;> rfl

theorem compareLine_on (n : Byte) : compareLine (setLine n (v.on s)) = (v.line n (s.mem.read 0xFF45)).on s := by
  rw [setLine_on hs]
  unfold compareLine
  dsimp only
  rw [stat_on hs, ly_on hs, read_on hs _ (by decide) (by decide) (by decide), setStat_on hs, setStat_on hs, requestIf_on hs]
  rw [Video.line]
  by_cases h : n = s.mem.read 0xFF45
  · rw [if_pos h, decide_eq_true h, Bool.true_and]
    rfl
  · rw [if_neg h, decide_eq_false h, Bool.false_and, or_statRequest_false]
    rfl

theorem snapshot_on (n : Nat) : snapshot n (v.on s) = (v.snapshot s.mem n).on s := by
  rw [snapshot, read_on hs _ (by decide) (by decide) (by decide), read_on hs _ (by decide) (by decide) (by decide)]
  rfl

theorem sameButEngines_on : SameButEngines (v.on s).mem s.mem := by
  intro a ha
  refine read_on hs v ?_ ?_ ?_ <;> rintro rfl <;> exact ha (by decide)

theorem present_on : renderAndPresent (requestInterrupt (v.on s) 0) = (v.present s.mem).on s := by
  rw [requestInterrupt_on hs, renderAndPresent, (sameButEngines_on hs _).renderFrame]
  rfl

theorem modeEnd_on : modeEnd (v.on s) = (v.modeEnd s.mem).on s := by
  unfold modeEnd Video.modeEnd
  show (match v.unit.mode with | .oamSearch => _ | .draw => _ | .hblank => _ | .vblank => _) = _
  cases v.unit.mode
  · dsimp only
    rw [ly_on hs, compareLine_on hs, enterMode_on hs, present_on hs, snapshot_on hs, enterMode_on hs]
    split <;> rfl
  · dsimp only
    rw [ly_on hs, compareLine_on hs, compareLine_on hs, snapshot_on hs, enterMode_on hs]
    split <;> rfl
  · exact enterMode_on hs v .draw
  · exact enterMode_on hs v .hblank

theorem lcdOff_on : lcdOff (v.on s) = v.off.on s := by
  have hline := setLine_on hs { v with unit := { v.unit with mode := .hblank, clock := 0 } } 0
  calc lcdOff (v.on s) = setStatMode (setLine 0 ({ v with unit := { v.unit with mode := .hblank, clock := 0 } }.on s)) .hblank := rfl
    _ = v.off.on s := by rw [hline, setStatMode, stat_on hs, setStat_on hs]; rfl

omit v in
theorem start_on : { s with out := { s.out with presented := none } } = (Video.start s.mem s.ppu).on s := by
  simp only [Video.on, Video.start, videoRegs.self hs]

omit v in
/-- The PixelUnit's step on the state is its step on its registers. -/
theorem pixelStep_eq (c : Nat) : pixelStep c s = (videoStep c s.mem s.ppu).on s := by
  unfold pixelStep videoStep
  rw [start_on hs]
  dsimp only
  rw [read_on hs _ (by decide) (by decide) (by decide)]
  by_cases hlcd : (s.mem.read 0xFF40).getLsbD 7 = true
  · rw [if_pos hlcd, if_pos hlcd]
    show (if s.ppu.clock + c < s.ppu.mode.budget then _ else _) = _
    split
    · rfl
    · exact modeEnd_on hs ((Video.start s.mem s.ppu).clock (s.ppu.clock + c - s.ppu.mode.budget))
  · rw [if_neg hlcd, if_neg hlcd]
    exact lcdOff_on hs _

end OnState

end Sys2Proof.Machine
end

section
/-! The transitions of the PixelUnit (R410 to R416), and the bits of STAT after each. -/

namespace Sys2Proof.Machine

theorem comparedStat_getLsbD (stat : Byte) (hit : Bool) (i : Nat) :
    (comparedStat stat hit).getLsbD i = if i = 2 then hit else stat.getLsbD i := by
  rcases Nat.lt_or_ge i 8 with h | h
  · cases hit <;> interval_cases i <;> simp [comparedStat]
  · rw [BitVec.getLsbD_of_ge _ _ h, if_neg (by omega), BitVec.getLsbD_of_ge _ _ h]

theorem modeStat_low (stat : Byte) (mode : Mode) : (modeStat stat mode).extractLsb' 0 2 = mode.number := by
  refine BitVec.eq_of_getLsbD_eq fun i hi => ?_
  rw [BitVec.getLsbD_extractLsb', decide_eq_true hi, Bool.true_and, Nat.zero_add, modeStat_getLsbD, if_pos hi]

/-- The comparison leaves the mode bits (R415). -/
theorem comparedStat_low (stat : Byte) (hit : Bool) : (comparedStat stat hit).extractLsb' 0 2 = stat.extractLsb' 0 2 := by
  refine BitVec.eq_of_getLsbD_eq fun i hi => ?_
  rw [BitVec.getLsbD_extractLsb', BitVec.getLsbD_extractLsb', Nat.zero_add, comparedStat_getLsbD, if_neg (by omega)]

theorem fires_comparedStat (stat : Byte) (hit : Bool) (mode : Mode) : mode.fires (comparedStat stat hit) = mode.fires stat := by
  cases mode with
  | draw => rfl
  | hblank | vblank | oamSearch => exact comparedStat_getLsbD ..

theorem statRequest_or (a b : Bool) : statRequest a ||| statRequest b = statRequest (a || b) := by
  revert a b
  decide

theorem or_statRequest (r : Byte) (b : Bool) : r ||| statRequest b = if b then r ||| 0x02 else r := by
  cases b
  · exact or_statRequest_false r
  · rfl

/-- The LY of the next line (R410). -/
def nextLine (mode : Mode) (ly : Byte) : Byte := if mode = .vblank ∧ ly = 153 then 0 else ly + 1

/-- A mode that ends with its line (R410). -/
def Mode.endsLine : Mode → Bool
  | .hblank | .vblank => true
  | .oamSearch | .draw => false

/-- The mode after a mode has ended (R410). -/
def nextMode (ly : Byte) : Mode → Mode
  | .oamSearch => .draw
  | .draw => .hblank
  | .hblank => if ly = 143 then .vblank else .oamSearch
  | .vblank => if ly = 153 then .oamSearch else .vblank

/-- The interrupts requested at the end of a mode, by whether the next LY is LYC (R411, R412, R415). -/
def endRequest (ly stat : Byte) (hit : Bool) : Mode → Byte
  | .oamSearch => 0
  | .draw => statRequest (stat.getLsbD 3)
  | .hblank =>
    if ly = 143 then statRequest (hit && stat.getLsbD 6 || stat.getLsbD 4) ||| 0x01
    else statRequest (hit && stat.getLsbD 6 || stat.getLsbD 5)
  | .vblank =>
    if ly = 153 then statRequest (hit && stat.getLsbD 6 || stat.getLsbD 5) else statRequest (hit && stat.getLsbD 6)

variable {v : Video} {m : Memory}

theorem succ_eq_iff (a b : Byte) : a + 1 = b + 1 ↔ a = b := add_left_inj (1 : Byte)

/-- The six transitions (R410). -/
theorem modeEnd_cases (v : Video) (m : Memory) :
    (v.unit.mode = .oamSearch ∧ v.modeEnd m = v.enter .draw) ∨
    (v.unit.mode = .draw ∧ v.modeEnd m = v.enter .hblank) ∨
    (v.unit.mode = .hblank ∧ v.ly = 143 ∧ v.modeEnd m = ((v.line 144 (m.read 0xFF45)).enter .vblank).present m) ∨
    (v.unit.mode = .hblank ∧ v.ly ≠ 143 ∧
      v.modeEnd m = ((v.line (v.ly + 1) (m.read 0xFF45)).snapshot m (v.ly + 1).toNat).enter .oamSearch) ∨
    (v.unit.mode = .vblank ∧ v.ly = 153 ∧ v.modeEnd m = ((v.line 0 (m.read 0xFF45)).snapshot m 0).enter .oamSearch) ∨
    (v.unit.mode = .vblank ∧ v.ly ≠ 153 ∧ v.modeEnd m = v.line (v.ly + 1) (m.read 0xFF45)) := by
  have h143 : v.ly + 1 = 144 ↔ v.ly = 143 := succ_eq_iff v.ly 143
  have h153 : v.ly + 1 = 154 ↔ v.ly = 153 := succ_eq_iff v.ly 153
  cases hmode : v.unit.mode <;> simp only [Video.modeEnd, hmode, h143, h153, reduceCtorEq, true_and, false_and, false_or, or_false]
  · by_cases h : v.ly = 143
    · exact .inl ⟨h, by rw [if_pos h, h]; rfl⟩
    · exact .inr ⟨h, if_neg h⟩
  · by_cases h : v.ly = 153
    · exact .inl ⟨h, if_pos h⟩
    · exact .inr ⟨h, if_neg h⟩

/-- The requests of a compare and of entering a mode after it (R411, R415). -/
theorem line_enter_request (v : Video) (n lyc : Byte) (mode : Mode) : ((v.line n lyc).enter mode).request =
    v.request ||| statRequest (decide (n = lyc) && v.stat.getLsbD 6 || mode.fires v.stat) := by
  rw [← statRequest_or, ← BitVec.or_assoc, ← fires_comparedStat v.stat (decide (n = lyc))]
  rfl

section ModeEnd

variable (v : Video) (m : Memory)

theorem modeEnd_clock : (v.modeEnd m).unit.clock = v.unit.clock := by
  obtain ⟨-, h⟩ | ⟨-, h⟩ | ⟨-, -, h⟩ | ⟨-, -, h⟩ | ⟨-, -, h⟩ | ⟨-, -, h⟩ := modeEnd_cases v m <;> rw [h] <;> rfl

theorem modeEnd_mode : (v.modeEnd m).unit.mode = nextMode v.ly v.unit.mode := by
  obtain ⟨hm, h⟩ | ⟨hm, h⟩ | ⟨hm, hl, h⟩ | ⟨hm, hl, h⟩ | ⟨hm, hl, h⟩ | ⟨hm, hl, h⟩ := modeEnd_cases v m <;>
    rw [h, hm, nextMode]
  · rfl
  · rfl
  · exact (if_pos hl).symm
  · exact (if_neg hl).symm
  · exact (if_pos hl).symm
  · exact hm.trans (if_neg hl).symm

theorem modeEnd_ly : (v.modeEnd m).ly = if v.unit.mode.endsLine then nextLine v.unit.mode v.ly else v.ly := by
  obtain ⟨hm, h⟩ | ⟨hm, h⟩ | ⟨hm, hl, h⟩ | ⟨hm, hl, h⟩ | ⟨hm, hl, h⟩ | ⟨hm, hl, h⟩ := modeEnd_cases v m <;> rw [h, hm]
  · rfl
  · rfl
  · rw [hl]; rfl
  · rfl
  · rw [hl]; rfl
  · exact (if_neg fun h => hl h.2).symm

theorem modeEnd_request : (v.modeEnd m).request = v.request |||
    endRequest v.ly v.stat (decide (nextLine v.unit.mode v.ly = m.read 0xFF45)) v.unit.mode := by
  obtain ⟨hm, h⟩ | ⟨hm, h⟩ | ⟨hm, hl, h⟩ | ⟨hm, hl, h⟩ | ⟨hm, hl, h⟩ | ⟨hm, hl, h⟩ := modeEnd_cases v m <;>
    rw [h, hm, endRequest]
  · rfl
  · rfl
  · rw [if_pos hl, ← BitVec.or_assoc, hl]
    exact congrArg (· ||| 0x01) (line_enter_request v 144 _ .vblank)
  · rw [if_neg hl]
    exact line_enter_request v (v.ly + 1) _ .oamSearch
  · rw [if_pos hl, hl]
    exact line_enter_request v 0 _ .oamSearch
  · rw [if_neg hl, nextLine, if_neg fun h => hl h.2]
    rfl

/-- The bits of STAT after a transition: the mode, the compare bit and the enables (R402, R415). -/
theorem modeEnd_stat_getLsbD {i : Nat} (hi : 2 ≤ i) : (v.modeEnd m).stat.getLsbD i =
    if i = 2 ∧ v.unit.mode.endsLine then decide (nextLine v.unit.mode v.ly = m.read 0xFF45) else v.stat.getLsbD i := by
  have entered (stat : Byte) (mode : Mode) : (modeStat stat mode).getLsbD i = stat.getLsbD i :=
    (modeStat_getLsbD ..).trans (if_neg (by omega))
  have compared (hit : Bool) (mode : Mode) (hend : mode.endsLine = true) : (comparedStat v.stat hit).getLsbD i =
      if i = 2 ∧ mode.endsLine then hit else v.stat.getLsbD i := by
    rw [comparedStat_getLsbD]
    exact if_congr (by simp [hend]) rfl rfl
  obtain ⟨hm, h⟩ | ⟨hm, h⟩ | ⟨hm, hl, h⟩ | ⟨hm, hl, h⟩ | ⟨hm, hl, h⟩ | ⟨hm, hl, h⟩ := modeEnd_cases v m <;> rw [h, hm]
  · exact (entered ..).trans (if_neg nofun).symm
  · exact (entered ..).trans (if_neg nofun).symm
  · rw [hl]; exact (entered ..).trans (compared _ _ rfl)
  · exact (entered ..).trans (compared _ _ rfl)
  · rw [hl]; exact (entered ..).trans (compared _ _ rfl)
  · have hnext : nextLine .vblank v.ly = v.ly + 1 := if_neg fun h => hl h.2
    rw [hnext]
    exact compared _ .vblank rfl

/-- STAT shows the mode after a transition if it did before (R402). -/
theorem modeEnd_stat_low (hstat : v.stat.extractLsb' 0 2 = v.unit.mode.number) :
    (v.modeEnd m).stat.extractLsb' 0 2 = (v.modeEnd m).unit.mode.number := by
  obtain ⟨-, h⟩ | ⟨-, h⟩ | ⟨-, -, h⟩ | ⟨-, -, h⟩ | ⟨-, -, h⟩ | ⟨-, -, h⟩ := modeEnd_cases v m <;> rw [h]
  · exact modeStat_low ..
  · exact modeStat_low ..
  · exact modeStat_low ..
  · exact modeStat_low ..
  · exact modeStat_low ..
  · exact (comparedStat_low ..).trans hstat

/-- Entering OAM search, and nothing else, takes the snapshot of the line (R416). -/
theorem modeEnd_scrollCache : (v.modeEnd m).unit.scrollCache =
    if (v.modeEnd m).unit.mode = .oamSearch then
      v.unit.scrollCache.setIfInBounds (nextLine v.unit.mode v.ly).toNat (m.read 0xFF43, m.read 0xFF42)
    else v.unit.scrollCache := by
  obtain ⟨hm, h⟩ | ⟨hm, h⟩ | ⟨hm, hl, h⟩ | ⟨hm, hl, h⟩ | ⟨hm, hl, h⟩ | ⟨hm, hl, h⟩ := modeEnd_cases v m <;> rw [h, hm]
  · rfl
  · rfl
  · rfl
  · rfl
  · rw [hl]; rfl
  · exact (if_neg (by simp [Video.line, hm])).symm

/-- The end of line 143 renders the picture and presents it; no other transition touches it (R413). -/
theorem modeEnd_frame : (v.modeEnd m).unit.frame =
    if v.unit.mode = .hblank ∧ v.ly = 143 then renderFrame m v.unit.scrollCache else v.unit.frame := by
  obtain ⟨hm, h⟩ | ⟨hm, h⟩ | ⟨hm, hl, h⟩ | ⟨hm, hl, h⟩ | ⟨hm, hl, h⟩ | ⟨hm, hl, h⟩ := modeEnd_cases v m <;> rw [h, hm]
  · rfl
  · rfl
  · simp only [if_pos, hl, and_self, Video.present, Video.enter, Video.line]
  · exact (if_neg fun h => hl h.2).symm
  · rfl
  · rfl

theorem modeEnd_presented (hv : v.presented = none) : (v.modeEnd m).presented =
    if v.unit.mode = .hblank ∧ v.ly = 143 then some (v.modeEnd m).unit.frame else none := by
  obtain ⟨hm, h⟩ | ⟨hm, h⟩ | ⟨hm, hl, h⟩ | ⟨hm, hl, h⟩ | ⟨hm, hl, h⟩ | ⟨hm, hl, h⟩ := modeEnd_cases v m <;> rw [h, hm]
  · exact hv
  · exact hv
  · simp only [if_pos, hl, and_self, Video.present, Video.enter, Video.line]
  · exact hv.trans (if_neg fun h => hl h.2).symm
  · exact hv
  · exact hv

end ModeEnd

end Sys2Proof.Machine
end

section
/-! The step of the PixelUnit (R410 to R418). -/

namespace Sys2Proof.Machine

/-- The mode bits of H-blank are 0 (R418). -/
theorem modeStat_hblank (stat : Byte) : modeStat stat .hblank = stat &&& 0xFC := by
  refine BitVec.eq_of_getLsbD_eq fun i hi => ?_
  rw [modeStat_getLsbD, BitVec.getLsbD_and]
  interval_cases i <;> simp [Mode.number]

end Sys2Proof.Machine

namespace Sys2Proof.Proofs

open Sys2Proof.Machine

/-- Settles O43: the step on the registers, whose end of a mode is read off field by field. -/
theorem pixelSteps : Obligations.PixelSteps := by
  intro s c hs t on ly stat next entered hit requested past
  have ht : t = (videoStep c s.mem s.ppu).on s := pixelStep_eq hs c
  have hly : t.mem.read 0xFF44 = (videoStep c s.mem s.ppu).ly := by rw [ht, ly_on hs]
  have hstat : t.mem.read 0xFF41 = (videoStep c s.mem s.ppu).stat := by rw [ht, stat_on hs]
  have hif : t.mem.read 0xFF0F = s.mem.read 0xFF0F ||| (videoStep c s.mem s.ppu).request := by
    rw [ht]
    exact videoRegs.read_if hs ..
  have hunit : t.ppu = (videoStep c s.mem s.ppu).unit := by rw [ht]; rfl
  have hpresented : t.out.presented = (videoStep c s.mem s.ppu).presented := by rw [ht]; rfl
  refine ⟨fun hoff => ?off, fun hon hin => ?inside, fun hon hpast => ?past, fun a hf h41 h44 => ?cells, by rw [ht]; rfl⟩
  case off =>
    have hstep : videoStep c s.mem s.ppu = (Video.start s.mem s.ppu).off :=
      if_neg (show ¬ on = true from Bool.eq_false_iff.mp hoff)
    rw [hly, hstat, hif, hunit, hpresented, hstep]
    exact ⟨rfl, rfl, modeStat_hblank _, BitVec.or_zero, rfl⟩
  case inside =>
    have hstep : videoStep c s.mem s.ppu = (Video.start s.mem s.ppu).clock (s.ppu.clock + c) := by
      rw [videoStep, if_pos hon, if_pos (by omega)]
    rw [ht, hstep]
    exact congrArg (fun r : State => { r with ppu := { s.ppu with clock := s.ppu.clock + c } }) (start_on hs).symm
  case cells =>
    rw [ht]
    exact read_on hs _ h44 h41 hf
  case past =>
    obtain ⟨v, hv⟩ : ∃ v, v = (Video.start s.mem s.ppu).clock (s.ppu.clock + c - s.ppu.mode.budget) := ⟨_, rfl⟩
    have hstep : videoStep c s.mem s.ppu = v.modeEnd s.mem := by
      rw [hv, videoStep, if_pos hon, if_neg (by omega)]
    have hvly : v.ly = ly := by rw [hv]; rfl
    have hvstat : v.stat = stat := by rw [hv]; rfl
    have hvmode : v.unit.mode = s.ppu.mode := by rw [hv]; rfl
    rw [hstep] at hly hstat hif hunit hpresented
    have hrequest : t.mem.read 0xFF0F = s.mem.read 0xFF0F ||| endRequest ly stat hit s.ppu.mode := by
      rw [hif, modeEnd_request, hvly, hvstat, hvmode, hv]
      exact congrArg (_ ||| ·) BitVec.zero_or
    have hmode : t.ppu.mode = nextMode ly s.ppu.mode := by rw [hunit, modeEnd_mode, hvly, hvmode]
    have hline : t.mem.read 0xFF44 = if s.ppu.mode.endsLine then next else ly := by
      rw [hly, modeEnd_ly, hvly, hvmode]
      rfl
    have hnext (h : ¬ (s.ppu.mode = .vblank ∧ ly = 153)) : next = ly + 1 := if_neg h
    refine ⟨?clock, fun hshows => ?shows, fun i hi => ?bits, ?bit2, fun h => ?oam, fun h => ?draw, fun h hl => ?hblank,
      fun h hl => ?hblankLast, fun h hl => ?vblank, fun h hl => ?vblankLast, ?cache, ?frame, ?presented⟩
    case clock => rw [hunit, modeEnd_clock, hv]; rfl
    case shows =>
      rw [hstat, hunit]
      exact modeEnd_stat_low _ _ (by rw [hvstat, hvmode]; exact hshows)
    case bits => rw [hstat, modeEnd_stat_getLsbD _ _ (by omega), if_neg (by omega), hvstat]
    case bit2 =>
      rw [hstat, modeEnd_stat_getLsbD _ _ (by omega), hvstat, hvmode, hvly]
      exact if_congr (by cases s.ppu.mode <;> simp [Mode.endsLine]) rfl rfl
    case oam => rw [hmode, hline, hrequest, h]; exact ⟨rfl, rfl, BitVec.or_zero⟩
    case draw => rw [hmode, hline, hrequest, h]; exact ⟨rfl, rfl, or_statRequest ..⟩
    case hblank =>
      rw [hmode, hline, hrequest, h, hnext (by simp [h]), nextMode, endRequest, if_neg hl, if_neg hl]
      exact ⟨rfl, rfl, or_statRequest ..⟩
    case hblankLast =>
      rw [hmode, hline, hrequest, h, hnext (by simp [h]), nextMode, endRequest, if_pos hl, if_pos hl, hl, ← BitVec.or_assoc]
      exact ⟨rfl, rfl, congrArg (· ||| 0x01) (or_statRequest ..)⟩
    case vblank =>
      rw [hmode, hline, hrequest, h, hnext (fun h' => hl h'.2), nextMode, endRequest, if_neg hl, if_neg hl]
      exact ⟨rfl, rfl, or_statRequest ..⟩
    case vblankLast =>
      have h0 : next = 0 := if_pos ⟨h, hl⟩
      rw [hmode, hline, hrequest, h, h0, nextMode, endRequest, if_pos hl, if_pos hl]
      exact ⟨rfl, rfl, or_statRequest ..⟩
    case cache =>
      rw [hunit, modeEnd_scrollCache, hvly, hvmode, hv]
      rfl
    case frame =>
      have hrender := (sameButEngines_on hs (videoStep c s.mem s.ppu)).renderFrame s.ppu.scrollCache
      rw [hunit, modeEnd_frame, hvly, hvmode, ht, hrender, hv]
      rfl
    case presented =>
      rw [hpresented, modeEnd_presented _ _ (by rw [hv]; rfl), hvly, hvmode, hunit]

end Sys2Proof.Proofs
end

section
/-! The PixelUnit stays in step (R33, R402, R404, R414, R416): no instruction and no timer touches what its invariant speaks of, and
each of its own steps keeps it. -/

namespace Sys2Proof.Machine

/-- What the invariant of the PixelUnit speaks of is the same: its own state, the mode bits of STAT, and LY. -/
structure SamePixel (s t : State) : Prop where
  wf : t.mem.wf
  ppu : t.ppu = s.ppu
  stat : (t.mem.read 0xFF41).extractLsb' 0 2 = (s.mem.read 0xFF41).extractLsb' 0 2
  ly : t.mem.read 0xFF44 = s.mem.read 0xFF44

variable {s t : State}

theorem SamePixel.congr {u : State} (h : SamePixel s t) (hmem : u.mem = t.mem) (hppu : u.ppu = t.ppu) : SamePixel s u :=
  ⟨hmem ▸ h.wf, hppu.trans h.ppu, hmem ▸ h.stat, hmem ▸ h.ly⟩

theorem SamePixel.pixelInv (h : SamePixel s t) (hs : pixelInv s) : pixelInv t := by
  unfold Machine.pixelInv
  rw [h.ppu, h.stat, h.ly]
  exact hs

/-- A store to any cell but STAT and LY. -/
theorem SamePixel.setMem (h : SamePixel s t) {a : Nat} (ha : a < 0x10000) (h41 : a ≠ 0xFF41) (h44 : a ≠ 0xFF44) (v : Byte) :
    SamePixel s (t.setMem a v) where
  wf := Memory.wf_write h.wf ha v
  ppu := h.ppu
  stat := by rw [State.setMem, Memory.read_write h.wf, if_neg h41, h.stat]
  ly := by rw [State.setMem, Memory.read_write h.wf, if_neg h44, h.ly]

/-- A program write to STAT leaves the mode bits (R402). -/
theorem statWrite_low (old v : Byte) : (statWrite old v).extractLsb' 0 2 = old.extractLsb' 0 2 := by
  refine BitVec.eq_of_getLsbD_eq fun i hi => ?_
  rw [BitVec.getLsbD_extractLsb', BitVec.getLsbD_extractLsb', Nat.zero_add, statWrite_getLsbD, if_pos (by omega)]

theorem SamePixel.setStat (h : SamePixel s t) (v : Byte) :
    SamePixel s (t.setMem 0xFF41 (statWrite (t.mem.read 0xFF41) v)) where
  wf := Memory.wf_write h.wf (by decide) _
  ppu := h.ppu
  stat := by rw [State.setMem, Memory.read_write h.wf, if_pos rfl, statWrite_low, h.stat]
  ly := by rw [State.setMem, Memory.read_write h.wf, if_neg (by decide), h.ly]

/-- A byte write leaves LY and the mode bits of STAT (R402, R404). -/
theorem SamePixel.memWrite (h : SamePixel s t) (addr : Word) (v : Byte) : SamePixel s (memWrite t addr v) := by
  rcases memWrite_cases t addr v with ⟨_, e⟩ | ⟨_, _, _, e⟩ | ⟨a, w, ha, e⟩ | e | e | e | ⟨_, _, _, e⟩ | e | e <;> rw [e]
  · exact h.congr rfl rfl
  · exact h.congr rfl rfl
  · exact h.setMem (by omega) (by omega) (by omega) w
  · exact h.setStat v
  · exact (h.setMem (a := 0xFF04) (by decide) (by decide) (by decide) 0).congr rfl rfl
  · exact dmaCopy_keeps (P := SamePixel s) (fun u a w hlo hhi hu => hu.setMem (by omega) (by omega) (by omega) w)
      (h.setMem (by decide) (by decide) (by decide) v) v
  · exact h.congr rfl rfl
  · exact h.congr rfl rfl
  · exact h

theorem samePixel_stable (s : State) : Stable (SamePixel s) where
  cpu _ _ h := h.congr rfl rfl
  write _ a v h := h.memWrite a v
  cycles _ _ h := h.congr rfl rfl

theorem executeStep_samePixel (hs : s.mem.wf) : Keeps (SamePixel s) (executeStep s) :=
  executeStep_keeps (samePixel_stable s) (fun _ v h => h.setMem (by decide) (by decide) (by decide) v) ⟨hs, rfl, rfl, rfl⟩

theorem advanceTimers_samePixel (h : SamePixel s t) (c : Nat) : SamePixel s (advanceTimers c t) :=
  advanceTimers_keeps
    (fun _ a v ha h => h.setMem (by omega) (by omega) (by omega) v) (fun _ _ h => h.congr rfl rfl) h c

/-- The rendered frame is canonical: its positions are those of the screen, in order. -/
theorem wf_renderFrame (m : Memory) (cache : Vector (Byte × Byte) 154) : (renderFrame m cache).wf := by
  refine ⟨List.pairwise_filterMap.2 (List.pairwise_lt_range.imp fun hij p hp q hq => ?_), fun p hp => ?_⟩
  · simp only [Option.ite_none_left_eq_some, Option.some.injEq] at hp hq
    rwa [← hp.2, ← hq.2]
  · obtain ⟨i, hi, hp⟩ := List.mem_filterMap.1 hp
    simp only [Option.ite_none_left_eq_some, Option.some.injEq] at hp
    obtain ⟨hne, rfl⟩ := hp
    exact ⟨List.mem_range.1 hi, hne⟩

/-- The invariant of the PixelUnit on its registers. -/
structure Video.Inv (v : Video) : Prop where
  clock : v.unit.clock < v.unit.mode.budget
  stat : v.stat.extractLsb' 0 2 = v.unit.mode.number
  line : lineOk v.unit.mode v.ly
  scrollCache : ∀ n : Fin 154, 144 ≤ n.val → v.unit.scrollCache[n] = (0, 0)
  frame : v.unit.frame.wf

theorem pixelInv_on (hs : s.mem.wf) (v : Video) : pixelInv (v.on s) ↔ v.Inv := by
  unfold pixelInv
  rw [stat_on hs, ly_on hs]
  exact ⟨fun ⟨h1, h2, h3, h4, h5⟩ => ⟨h1, h2, h3, h4, h5⟩, fun ⟨h1, h2, h3, h4, h5⟩ => ⟨h1, h2, h3, h4, h5⟩⟩

theorem eighty_le_budget (mode : Mode) : 80 ≤ mode.budget := by
  cases mode <;> decide

/-- The line after a transition suits the mode after it (R404, R414). -/
theorem lineOk_next {mode : Mode} {ly : Byte} (h : lineOk mode ly) :
    lineOk (nextMode ly mode) (if mode.endsLine then nextLine mode ly else ly) := by
  have h143 : ly = 143 ↔ ly.toNat = 143 := BitVec.toNat_inj.symm
  have h153 : ly = 153 ↔ ly.toNat = 153 := BitVec.toNat_inj.symm
  have hsucc (hlt : ly.toNat < 255) : (ly + 1).toNat = ly.toNat + 1 := BitVec.toNat_add_of_lt (Nat.succ_lt_succ hlt)
  cases mode with
  | oamSearch | draw => exact h
  | hblank =>
    have hle : ly.toNat ≤ 143 := h
    by_cases hl : ly = 143
    · subst hl
      decide
    · rw [nextMode, if_neg hl]
      show (ly + 1).toNat ≤ 143
      rw [hsucc (by omega)]
      exact Nat.succ_le_of_lt (lt_of_le_of_ne hle (mt h143.2 hl))
  | vblank =>
    have ⟨hlo, hhi⟩ : 144 ≤ ly.toNat ∧ ly.toNat ≤ 153 := h
    by_cases hl : ly = 153
    · subst hl
      decide
    · have hnext : nextLine .vblank ly = ly + 1 := if_neg fun h => hl h.2
      rw [nextMode, if_neg hl, hnext]
      show 144 ≤ (ly + 1).toNat ∧ (ly + 1).toNat ≤ 153
      rw [hsucc (by omega)]
      exact ⟨by omega, Nat.succ_le_of_lt (lt_of_le_of_ne hhi (mt h153.2 hl))⟩

/-- OAM search begins at the beginning of a line. -/
theorem endsLine_of_nextMode {mode : Mode} {ly : Byte} (h : nextMode ly mode = .oamSearch) : mode.endsLine = true := by
  cases mode with
  | oamSearch | draw => cases h
  | hblank | vblank => rfl

/-- The end of a mode keeps the invariant, if what is left of the clock is below every budget. -/
theorem Video.Inv.modeEnd {v : Video} (m : Memory) (hclock : v.unit.clock < 80)
    (hstat : v.stat.extractLsb' 0 2 = v.unit.mode.number) (hline : lineOk v.unit.mode v.ly)
    (hcache : ∀ n : Fin 154, 144 ≤ n.val → v.unit.scrollCache[n] = (0, 0)) (hframe : v.unit.frame.wf) : (v.modeEnd m).Inv := by
  have hnext : lineOk (v.modeEnd m).unit.mode (v.modeEnd m).ly := by
    rw [modeEnd_mode, modeEnd_ly]
    exact lineOk_next hline
  refine ⟨?_, modeEnd_stat_low v m hstat, hnext, fun n hn => ?_, ?_⟩
  · rw [modeEnd_clock]
    exact hclock.trans_le (eighty_le_budget _)
  · rw [modeEnd_scrollCache]
    split
    · rename_i hmode
      have hend : v.unit.mode.endsLine = true := endsLine_of_nextMode ((modeEnd_mode v m).symm.trans hmode)
      rw [hmode, modeEnd_ly, if_pos hend] at hnext
      have hle : (nextLine v.unit.mode v.ly).toNat ≤ 143 := hnext
      have hset := Vector.getElem_setIfInBounds_ne (xs := v.unit.scrollCache) (x := (m.read 0xFF43, m.read 0xFF42)) n.isLt
        (show (nextLine v.unit.mode v.ly).toNat ≠ n.val by omega)
      exact hset.trans (hcache n hn)
    · exact hcache n hn
  · rw [modeEnd_frame]
    split
    · exact wf_renderFrame ..
    · exact hframe

theorem videoStep_inv {m : Memory} {u : PixelUnit} (h : (Video.start m u).Inv) {c : Nat} (hc : c ≤ 24) :
    (videoStep c m u).Inv := by
  unfold videoStep
  split
  · split
    · rename_i hlt
      exact ⟨hlt, h.stat, h.line, h.scrollCache, h.frame⟩
    · have hclock : u.clock < u.mode.budget := h.clock
      exact .modeEnd m (show u.clock + c - u.mode.budget < 80 by omega) h.stat h.line h.scrollCache h.frame
  · exact ⟨(by decide : 0 < Mode.hblank.budget), modeStat_low _ .hblank, (by decide : lineOk .hblank 0), h.scrollCache, h.frame⟩

theorem pixelStep_inv (hs : s.mem.wf) (h : pixelInv s) {c : Nat} (hc : c ≤ 24) : pixelInv (pixelStep c s) := by
  obtain ⟨hclock, hstat, hline, hcache, hframe⟩ := h
  rw [pixelStep_eq hs, pixelInv_on hs]
  exact videoStep_inv ⟨hclock, hstat, hline, hcache, hframe⟩ hc

end Sys2Proof.Machine

namespace Sys2Proof.Proofs

open Sys2Proof.Machine

/-- Settles O51: `executeStep` and the timers leave what the invariant speaks of, and a step of the PixelUnit, whose cycles are
fewer than the shortest budget, keeps it. -/
theorem pixelUnitStaysInStep : Obligations.PixelUnitStaysInStep := by
  intro s t hs hinv ht
  obtain ⟨u, hu, rfl⟩ := step_next ht
  have hsame := advanceTimers_samePixel (executeStep_samePixel hs u hu) u.out.cycles
  have hcycles : ∀ n ∈ validCycles, n ≤ 24 := by decide
  exact pixelStep_inv hsame.wf (hsame.pixelInv hinv) (hcycles _ (executeStep_cycles u hu))

end Sys2Proof.Proofs
end

section
/-! The three engines in any order (R570): each reads nothing that another writes, but IF, to which each only adds. -/

namespace Sys2Proof.Machine

variable {s : State} {m n : Memory}

/-- The end of a mode reads the video registers and what the compositor reads. -/
theorem Video.modeEnd_congr (h : SameButEngines m n) (v : Video) : v.modeEnd m = v.modeEnd n := by
  simp only [Video.modeEnd, Video.snapshot, Video.present, h 0xFF45 (by decide), h 0xFF43 (by decide), h 0xFF42 (by decide),
    h.renderFrame]

theorem videoStep_congr (h : SameButEngines m n) (hly : m.read 0xFF44 = n.read 0xFF44) (hstat : m.read 0xFF41 = n.read 0xFF41)
    (c : Nat) (u : PixelUnit) : videoStep c m u = videoStep c n u := by
  simp only [videoStep, Video.start, Video.modeEnd_congr h, h.lcdc, hly, hstat]

/-- The timer engine changes nothing that the PixelUnit reads. -/
theorem videoStep_timerMemAfter (hm : m.wf) (t : TimerUnit) (c d : Nat) (u : PixelUnit) :
    videoStep c (timerMemAfter m t d) u = videoStep c m u := by
  have hother {a : Nat} (h4 : a ≠ 0xFF04) (h5 : a ≠ 0xFF05) (hf : a ≠ 0xFF0F) : (timerMemAfter m t d).read a = m.read a :=
    timerRegs.read_other hm _ _ _ h4 h5 hf
  refine videoStep_congr (fun a ha => hother ?_ ?_ ?_) (hother (by decide) (by decide) (by decide))
    (hother (by decide) (by decide) (by decide)) c u <;> rintro rfl <;> exact ha (by decide)

/-- The timer engine reads its own registers alone. -/
theorem timerAfter_congr (h : ∀ a, 0xFF04 ≤ a → a ≤ 0xFF07 → n.read a = m.read a) (t : TimerUnit) (c : Nat) :
    timerUnitAfter n t c = timerUnitAfter m t c ∧ timerMemAfter n t c =
      withRegs 0xFF04 0xFF05 n (m.read 0xFF04 + BitVec.ofNat 8 ((t.divAcc + c) / 256)) (timaAfter m t.timaAcc c).1
        (timerRequest (timaAfter m t.timaAcc c).2) := by
  have hcount := timaCount_congr (h 0xFF07 (by decide) (by decide)) t.timaAcc c
  have hafter : timaAfter n t.timaAcc c = timaAfter m t.timaAcc c := by
    rw [timaAfter, timaAfter, hcount, h 0xFF06 (by decide) (by decide), h 0xFF05 (by decide) (by decide)]
  refine ⟨by rw [timerUnitAfter, timerUnitAfter, hcount], ?_⟩
  rw [timerMemAfter, hafter, h 0xFF04 (by decide) (by decide)]

theorem pixelStep_advanceTimers (hs : s.mem.wf) (c d : Nat) :
    pixelStep c (advanceTimers d s) = advanceTimers d (pixelStep c s) := by
  obtain ⟨hunit, hmem⟩ := timerAfter_congr (m := s.mem) (n := ((videoStep c s.mem s.ppu).on s).mem)
    (fun a hlo hhi => read_on hs _ (by omega) (by omega) (by omega)) ((videoStep c s.mem s.ppu).on s).timer d
  rw [advanceTimers_eq hs, pixelStep_eq (wf_timerMemAfter hs s.timer d), pixelStep_eq hs, advanceTimers_eq (wf_on hs _),
    videoStep_timerMemAfter hs]
  rw [hunit, hmem]
  exact congrArg
    (fun r => ({ (videoStep c s.mem s.ppu).on s with timer := timerUnitAfter s.mem s.timer d, mem := r } : State))
    (timerRegs.comm hs videoRegs (by decide) (by decide) (by decide) (by decide) _ _ _)

/-- The SoundUnit touches nothing that the timers read or write. -/
theorem soundStep_advanceTimers (hs : s.mem.wf) (c d : Nat) :
    soundStep c (advanceTimers d s) = advanceTimers d (soundStep c s) := by
  rw [advanceTimers_eq hs, advanceTimers_eq (s := soundStep c s) hs]
  rfl

/-- The SoundUnit touches nothing that the PixelUnit reads or writes. -/
theorem soundStep_pixelStep (hs : s.mem.wf) (c d : Nat) : soundStep c (pixelStep d s) = pixelStep d (soundStep c s) := by
  rw [pixelStep_eq hs, pixelStep_eq (s := soundStep c s) hs]
  rfl

theorem wf_advanceTimers (hs : s.mem.wf) (c : Nat) : (advanceTimers c s).mem.wf := by
  rw [advanceTimers_eq hs]
  exact wf_timerMemAfter hs ..

theorem wf_pixelStep (hs : s.mem.wf) (c : Nat) : (pixelStep c s).mem.wf := by
  rw [pixelStep_eq hs]
  exact wf_on hs _

end Sys2Proof.Machine

namespace Sys2Proof.Proofs

open Sys2Proof.Machine

/-- Settles O46: each two of the engines commute. -/
theorem enginesCommute : Obligations.EnginesCommute := by
  refine ⟨fun s t ht => step_of_next ht, fun s f hf => step_of_fault hf, fun s c hs => ?_⟩
  have htimers := wf_advanceTimers hs c
  have hpixel := wf_pixelStep hs c
  have hsound : (soundStep c s).mem.wf := hs
  refine ⟨?_, ?_, ?_, ?_, ?_⟩
  · rw [pixelStep_advanceTimers hs]
  · rw [soundStep_pixelStep htimers]
  · rw [soundStep_pixelStep htimers, soundStep_advanceTimers hs]
  · rw [pixelStep_advanceTimers hs, soundStep_advanceTimers hpixel]
  · rw [pixelStep_advanceTimers hs, soundStep_advanceTimers hpixel, soundStep_pixelStep hs]

end Sys2Proof.Proofs
end

section
/-! The timer accumulators and the cartridge port stay in range (R92, R97, R98, R388). -/

namespace Sys2Proof.Machine

variable {s : State}

theorem zeroToOne_ne_zero {w : Nat} (b : BitVec (w + 1)) : zeroToOne b ≠ 0 := by
  unfold zeroToOne
  split
  · simp
  · assumption

/-- A write to a bank register replaces 0 by 1 where 0 counts as 1 (R97, R98). -/
theorem BankController.ok_write {ctl : BankController} (h : ctl.ok = true) (a : Nat) (v : Byte) : (ctl.write a v).ok = true := by
  cases ctl with
  | flat => rfl
  | mbc1 en romLow upper mode =>
    rw [write]
    split_ifs
    · exact h
    · exact bne_iff_ne.2 (zeroToOne_ne_zero _)
    · exact h
    · exact h
  | mbc3 en bank sel =>
    rw [write]
    split_ifs
    · exact h
    · exact bne_iff_ne.2 (zeroToOne_ne_zero _)
    · exact h
    · exact h
  | mbc5 en bank ramBank =>
    rw [write]
    split_ifs <;> rfl

theorem Cartridge.inv_writeRom {c : Cartridge} (h : c.Inv) (a : Nat) (v : Byte) : (c.writeRom a v).Inv := by
  obtain ⟨hctl, hrest⟩ := h
  exact ⟨BankController.ok_write hctl a v, hrest⟩

theorem Cartridge.inv_writeRam {c : Cartridge} (h : c.Inv) (a : Nat) (v : Byte) : (c.writeRam a v).Inv := by
  unfold writeRam
  split
  · exact h
  · exact h
  · split
    · obtain ⟨hctl, hsize, hrom, hxram⟩ := h
      exact ⟨hctl, hsize, hrom, Cells.wf_write hxram ‹_› v⟩
    · exact h

/-- The timers and the port in range. -/
def timerCartInv (s : State) : Prop := s.timer.Inv ∧ s.cart.Inv

theorem timerCartInv_memWrite (h : timerCartInv s) (addr : Word) (v : Byte) : timerCartInv (memWrite s addr v) := by
  rcases memWrite_cases s addr v with ⟨_, e⟩ | ⟨_, _, _, e⟩ | ⟨_, _, _, e⟩ | e | e | e | ⟨_, _, _, e⟩ | e | e <;> rw [e]
  · exact ⟨h.1, Cartridge.inv_writeRom h.2 ..⟩
  · exact ⟨h.1, Cartridge.inv_writeRam h.2 ..⟩
  · exact h
  · exact h
  · exact ⟨⟨Nat.zero_lt_succ 255, h.1.2⟩, h.2⟩
  · obtain ⟨m, hm⟩ := dmaCopy_eq (s.setMem 0xFF46 v) v
    rw [hm]
    exact h
  · exact h
  · exact h
  · exact h

theorem timerCartInv_stable : Stable timerCartInv where
  cpu _ _ h := h
  write _ a v h := timerCartInv_memWrite h a v
  cycles _ _ h := h

theorem timerPeriod_le (tac : Byte) : timerPeriod tac ≤ 1024 := by
  unfold timerPeriod
  split <;> decide

/-- An increment of TIMA leaves the accumulators. -/
theorem timaTick_timer (s : State) : (timaTick s).timer = s.timer := by
  unfold timaTick
  split <;> rfl

theorem advanceDiv_timer (s : State) (c : Nat) :
    (advanceDiv s c).timer = { s.timer with divAcc := (s.timer.divAcc + c) % 256 } := by
  unfold advanceDiv
  exact iterate_keeps (P := fun t : State => t.timer = { s.timer with divAcc := (s.timer.divAcc + c) % 256 })
    (f := fun t => t.setMem 0xFF04 (t.mem.read 0xFF04 + 1)) (fun _ h => h) _ rfl

/-- Both accumulators are remainders by a period, or as they were (R386). -/
theorem advanceTimers_timerInv (h : s.timer.Inv) (c : Nat) : (advanceTimers c s).timer.Inv := by
  have hdiv : (advanceDiv s c).timer.Inv := by
    rw [advanceDiv_timer]
    exact ⟨Nat.mod_lt _ (by decide), h.2⟩
  unfold advanceTimers advanceTima
  dsimp only
  split
  · refine iterate_keeps (P := fun t : State => t.timer.Inv) (fun t ht => by rwa [timaTick_timer]) _ ⟨hdiv.1, ?_⟩
    exact (countUp_lt (timerPeriod_pos _)).trans_le (timerPeriod_le _)
  · exact hdiv

/-- The PixelUnit and the SoundUnit leave the timers. -/
theorem advanceEngines_timer (s : State) (c : Nat) : (advanceEngines c s).timer = (advanceTimers c s).timer :=
  pixelStep_keeps (P := fun t => t.timer = (advanceTimers c s).timer) (fun _ _ _ _ h => h) (fun _ _ h => h) (fun _ _ h => h) rfl c

end Sys2Proof.Machine

namespace Sys2Proof.Proofs

open Sys2Proof.Machine

/-- Settles O50: every store keeps the ranges, and of the engines only the timers touch an accumulator. -/
theorem timerAndCartridgeStayInRange : Obligations.TimerAndCartridgeStayInRange := by
  intro s t htimer hcart ht
  obtain ⟨u, hu, rfl⟩ := step_next ht
  obtain ⟨htimer', hcart'⟩ := executeStep_keeps timerCartInv_stable (fun _ _ h => h) ⟨htimer, hcart⟩ u hu
  obtain ⟨-, -, hsame, -, -⟩ := advanceEngines_keeps u u.out.cycles
  rw [advanceEngines_timer, hsame]
  exact ⟨advanceTimers_timerInv htimer' _, hcart'⟩

end Sys2Proof.Proofs
end

section
/-! The compositor in numbers (R420 to R427). -/

namespace Sys2Proof.Machine

open Sys2Proof.Claims

variable {m : Memory} {cache : Vector (Byte × Byte) 154}

/-- The shades at the positions of a list, in the form of a frame, give back the shade at a position. -/
theorem shade_filterMap (g : Nat → Shade) (l : List Nat) (j : Nat) :
    (((l.filterMap fun i => if g i = 0 then none else some (i, g i)).find? (fun p => p.1 == j)).map (·.2)).getD 0 =
      if j ∈ l then g j else 0 := by
  induction l with
  | nil => rfl
  | cons i l ih =>
    by_cases h0 : g i = 0
    · rw [List.filterMap_cons, if_pos h0]
      dsimp only
      rw [ih]
      by_cases hij : j = i
      · subst hij
        simp [h0]
      · simp [hij]
    · rw [List.filterMap_cons, if_neg h0]
      dsimp only
      rw [List.find?_cons]
      by_cases hij : i = j
      · simp [hij]
      · rw [beq_false_of_ne hij, ih]
        simp [Ne.symm hij]

theorem renderFrame_shade (m : Memory) (cache : Vector (Byte × Byte) 154) {x y : Nat} (hx : x < 160) (hy : y < 144) :
    (renderFrame m cache).shade x y = pixel m cache x y := by
  have hmem : 160 * y + x ∈ List.range (160 * 144) := List.mem_range.2 (by omega)
  have hshade := shade_filterMap (fun i => pixel m cache (i % 160) (i / 160)) (List.range (160 * 144)) (160 * y + x)
  rw [if_pos hmem, show (160 * y + x) % 160 = x by omega, show (160 * y + x) / 160 = y by omega] at hshade
  exact hshade

theorem tileIndex_eq (m : Memory) (addr r k : Nat) : tileIndex m addr r k = tileColour m addr r k := by
  have planes (hi lo : Bool) : BitVec.ofBool hi ++ BitVec.ofBool lo = BitVec.ofNat 2 (hi.toNat * 2 + lo.toNat) := by
    revert hi lo
    decide
  rw [tileIndex, planes, getLsbD_toNat, getLsbD_toNat]
  rfl

theorem paletteShade_eq (pal : Byte) (idx : BitVec 2) : paletteShade pal idx = BitVec.ofNat 2 (pal.toNat / 4 ^ idx.toNat) := by
  rw [paletteShade, extractLsb'_eq_ofNat, pow_zero, Nat.div_one, BitVec.toNat_ushiftRight, Nat.shiftRight_eq_div_pow, pow_mul]
  rfl

/-- The data of a background tile in numbers (R422). -/
theorem tileDataAddr_eq (unsigned : Bool) (tileNo : Byte) : tileDataAddr unsigned tileNo =
    if unsigned then 0x8000 + tileNo.toNat * 16
    else if tileNo.toNat < 128 then 0x9000 + tileNo.toNat * 16 else 0x8000 + tileNo.toNat * 16 := by
  have hlt := tileNo.isLt
  unfold tileDataAddr
  rw [BitVec.toInt_eq_toNat_cond]
  split_ifs <;> omega

/-- The window covers the pixel. -/
def inWindow (m : Memory) (x y : Nat) : Prop :=
  (m.read 0xFF40).getLsbD 5 = true ∧ (m.read 0xFF4A).toNat ≤ y ∧ (m.read 0xFF4B).toNat ≤ x + 7

theorem useWindow_iff {x y : Nat} : useWindow m x y = true ↔ inWindow m x y := by
  rw [useWindow, Bool.and_eq_true, Bool.and_eq_true, decide_eq_true_iff, decide_eq_true_iff, and_assoc]
  rfl

theorem mapPosition_window {x y : Nat} (h : inWindow m x y) : mapPosition m cache x y =
    (tileMapBase ((m.read 0xFF40).getLsbD 6), x + 7 - (m.read 0xFF4B).toNat, y - (m.read 0xFF4A).toNat) :=
  if_pos (useWindow_iff.2 h)

theorem mapPosition_background {x : Nat} {y : Fin 154} (h : ¬ inWindow m x y) : mapPosition m cache x y =
    (tileMapBase ((m.read 0xFF40).getLsbD 3), (x + cache[y].1.toNat) % 256, (y.val + cache[y].2.toNat) % 256) := by
  rw [mapPosition, if_neg (mt useWindow_iff.1 h), Vector.getElem?_eq_getElem y.isLt]
  rfl

/-- The colour at a place of a tile map (R422, R423). -/
theorem bgIndex_of_position {x y px py : Nat} {high : Bool} (hon : (m.read 0xFF40).getLsbD 0 = true)
    (hpos : mapPosition m cache x y = (tileMapBase high, px, py)) : bgIndex m cache x y =
      tileColour m (tileDataAddr ((m.read 0xFF40).getLsbD 4) (m.read (tileMapBase high + py / 8 * 32 + px / 8)))
        (py % 8) (px % 8) := by
  rw [bgIndex, if_pos hon, hpos]
  exact tileIndex_eq ..

theorem evenTile (t : Byte) : (t &&& 0xFE).toNat = t.toNat / 2 * 2 := by
  revert t
  decide

/-- A sprite entry in the coordinates of the screen (R425, R426). -/
theorem spriteIndex_eq (m : Memory) (x y i : Nat) :
    let sy : Int := (m.read (0xFE00 + 4 * i)).toNat - 16
    let sx : Int := (m.read (0xFE00 + 4 * i + 1)).toNat - 8
    let tile := (m.read (0xFE00 + 4 * i + 2)).toNat
    let attr := m.read (0xFE00 + 4 * i + 3)
    let h : Nat := if (m.read 0xFF40).getLsbD 2 then 16 else 8
    let r := (y - sy).toNat
    let k := (x - sx).toNat
    spriteIndex m x y i =
      if sy ≤ y ∧ y < sy + h ∧ sx ≤ x ∧ x < sx + 8 then
        some (tileColour m (0x8000 + (if h = 16 then tile / 2 * 2 else tile) * 16)
          (if attr.getLsbD 6 then h - 1 - r else r) (if attr.getLsbD 5 then 7 - k else k))
      else none := by
  intro sy sx tile attr h r k
  have hr : y + 16 - (m.read (0xFE00 + 4 * i)).toNat = r := by omega
  have hk : x + 8 - (m.read (0xFE00 + 4 * i + 1)).toNat = k := by omega
  have htile : ((if h = 16 then m.read (0xFE00 + 4 * i + 2) &&& 0xFE else m.read (0xFE00 + 4 * i + 2)) : Byte).toNat =
      if h = 16 then tile / 2 * 2 else tile := by
    rw [apply_ite BitVec.toNat, evenTile]
  have hheight : spriteHeight m = h := rfl
  unfold spriteIndex
  dsimp only
  rw [hheight, hr, hk, htile, tileIndex_eq]
  by_cases hy : y + 16 < (m.read (0xFE00 + 4 * i)).toNat ∨ (m.read (0xFE00 + 4 * i)).toNat + h ≤ y + 16
  · rw [if_pos hy, if_neg (by omega)]
  · rw [if_neg hy]
    by_cases hx : x + 8 < (m.read (0xFE00 + 4 * i + 1)).toNat ∨ (m.read (0xFE00 + 4 * i + 1)).toNat + 8 ≤ x + 8
    · rw [if_pos hx, if_neg (by omega)]
    · have hbox : sy ≤ y ∧ y < sy + h ∧ sx ≤ x ∧ x < sx + 8 := by omega
      rw [if_neg hx, if_pos hbox]

/-- An entry outside its box or transparent is passed over (R426). -/
theorem spriteScan_pass {bg : BitVec 2} {x y i : Nat} (h : spriteIndex m x y i = none ∨ spriteIndex m x y i = some 0)
    (l : List Nat) : spriteScan m bg x y (i :: l) = spriteScan m bg x y l := by
  rw [spriteScan]
  obtain h | h := h <;> rw [h]
  exact if_pos rfl

/-- The first opaque entry ends the scan (R426, R427). -/
theorem spriteScan_opaque {bg : BitVec 2} {x y i : Nat} {idx : BitVec 2} (h : spriteIndex m x y i = some idx) (hne : idx ≠ 0)
    (l : List Nat) : spriteScan m bg x y (i :: l) =
      if (m.read (0xFE00 + 4 * i + 3)).getLsbD 7 = true ∧ bg ≠ 0 then none
      else some (BitVec.ofNat 2 ((m.read (if (m.read (0xFE00 + 4 * i + 3)).getLsbD 4 then 0xFF49 else 0xFF48)).toNat /
        4 ^ idx.toNat)) := by
  rw [spriteScan, h]
  dsimp only
  rw [if_neg hne, paletteShade_eq, apply_ite m.read]

theorem spriteScan_append {bg : BitVec 2} {x y : Nat} {front : List Nat}
    (h : ∀ j ∈ front, spriteIndex m x y j = none ∨ spriteIndex m x y j = some 0) (l : List Nat) :
    spriteScan m bg x y (front ++ l) = spriteScan m bg x y l := by
  induction front with
  | nil => rfl
  | cons i front ih => rw [List.cons_append, spriteScan_pass (h i (by simp)), ih fun j hj => h j (by simp [hj])]

end Sys2Proof.Machine

namespace Sys2Proof.Proofs

open Sys2Proof.Machine Sys2Proof.Claims

/-- Settles O44: the pixel by its parts, each in numbers. -/
theorem frameIsItsPixels : Obligations.FrameIsItsPixels := by
  refine ⟨fun m cache x y => renderFrame_shade m cache, ?pixel, ?sprite, ?none, ?first⟩
  case pixel =>
    intro m cache x y lcdc bg wx wy data colour
    refine ⟨congrArg (spriteShade m bg x y).getD (paletteShade_eq ..), fun hoff => if_neg (Bool.eq_false_iff.1 hoff),
      fun hon hin => ?_, fun hon hout => ?_⟩
    · refine (bgIndex_of_position hon (mapPosition_window hin)).trans ?_
      rw [tileDataAddr_eq]
      rfl
    · refine (bgIndex_of_position hon (mapPosition_background hout)).trans ?_
      rw [tileDataAddr_eq]
      rfl
  case sprite =>
    intro m x y i
    exact spriteIndex_eq m x y i
  case none =>
    intro m bg x y l hl
    rw [← List.append_nil l, spriteScan_append hl]
    rfl
  case first =>
    intro m bg x y i front back idx hfront hi hne
    rw [spriteScan_append hfront, spriteScan_opaque hi hne]

/-- Settles O45: the sixteen pixels computed. -/
theorem pixelExample : Obligations.PixelExample := by
  unfold Obligations.PixelExample
  decide

end Sys2Proof.Proofs
end

section
/-! The noise register (R504). -/

namespace Sys2Proof.Machine

theorem lfsrNext_false_getLsbD (r : BitVec 15) {i : Nat} (hi : i < 15) :
    (lfsrNext false r).getLsbD i = if i < 14 then r.getLsbD (i + 1) else (r.getLsbD 0 ^^ r.getLsbD 1) := by
  show (BitVec.ofBool (r.getLsbD 0 ^^ r.getLsbD 1) ++ r.extractLsb' 1 14).getLsbD i = _
  rw [BitVec.getLsbD_append]
  split
  · rename_i hlt
    rw [BitVec.getLsbD_extractLsb', decide_eq_true hlt, Bool.true_and, Nat.add_comm]
  · rw [show i - 14 = 0 by omega]
    exact BitVec.getLsbD_ofBool _ 0

/-- Bit 6 alone tells the 7-bit mode from the 15-bit mode (R504). -/
theorem lfsrNext_true_getLsbD (r : BitVec 15) (i : Nat) : (lfsrNext true r).getLsbD i =
    if i = 6 then (r.getLsbD 0 ^^ r.getLsbD 1) else (lfsrNext false r).getLsbD i := by
  show (lfsrNext false r &&& 0x7FBF ||| (BitVec.ofBool (r.getLsbD 0 ^^ r.getLsbD 1)).setWidth 15 <<< 6).getLsbD i = _
  generalize (r.getLsbD 0 ^^ r.getLsbD 1) = b
  generalize lfsrNext false r = w
  rcases Nat.lt_or_ge i 15 with h | h
  · rw [BitVec.getLsbD_or, BitVec.getLsbD_and]
    interval_cases i <;> cases b <;> simp
  · rw [BitVec.getLsbD_of_ge _ _ h, if_neg (by omega), BitVec.getLsbD_of_ge _ _ h]

/-- The shift loses nothing: bit 0 is recovered from the exclusive or (R504). -/
theorem lfsrNext_false_injective {r q : BitVec 15} (h : lfsrNext false r = lfsrNext false q) : r = q := by
  have hbit (i : Nat) (hi : i < 14) : r.getLsbD (i + 1) = q.getLsbD (i + 1) := by
    have hi' := congrArg (·.getLsbD i) h
    rwa [lfsrNext_false_getLsbD r (by omega), lfsrNext_false_getLsbD q (by omega), if_pos hi, if_pos hi] at hi'
  have hxor : (r.getLsbD 0 ^^ r.getLsbD 1) = (q.getLsbD 0 ^^ q.getLsbD 1) := by
    have h14 := congrArg (·.getLsbD 14) h
    rwa [lfsrNext_false_getLsbD r (by decide), lfsrNext_false_getLsbD q (by decide)] at h14
  refine BitVec.eq_of_getLsbD_eq fun i hi => ?_
  cases i with
  | zero => rwa [hbit 0 (by decide), Bool.xor_left_inj] at hxor
  | succ i => exact hbit i (by omega)

end Sys2Proof.Machine

namespace Sys2Proof.Proofs

open Sys2Proof.Machine

/-- Settles O39: the shift is injective and fixes 0. -/
theorem noiseRegisterNeverZero : Obligations.NoiseRegisterNeverZero := by
  refine ⟨fun r hr h => hr (lfsrNext_false_injective (h.trans (by decide))), fun r q => lfsrNext_false_injective, fun r => ?_⟩
  refine ⟨fun i hi => ?_, lfsrNext_false_getLsbD r (by decide), fun i hi => ?_, lfsrNext_true_getLsbD r 6⟩
  · rw [lfsrNext_false_getLsbD r (by omega), if_pos hi]
  · rw [lfsrNext_true_getLsbD, if_neg hi]

end Sys2Proof.Proofs
end

section
/-! The registers of the SoundUnit: reading and storing them, the fields in numbers, and the effects of a write (R467 to R479,
R530). -/

namespace Sys2Proof.Machine

variable {u : SoundUnit} {a b : Nat} {v : Byte}

theorem SoundUnit.reg_setReg (u : SoundUnit) (v : Byte) (ha : 0xFF10 ≤ a) (ha' : a ≤ 0xFF25) (hb : 0xFF10 ≤ b) :
    (u.setReg a v).reg b = if b = a then v else u.reg b := by
  unfold reg setReg
  dsimp only
  rw [Vector.getElem?_setIfInBounds, if_pos (show a - 0xFF10 < 22 by omega)]
  by_cases h : b = a
  · rw [h, if_pos rfl, if_pos rfl]
    rfl
  · rw [if_neg (by omega), if_neg h]

/-- Storing a register changes the register bytes alone. -/
theorem SoundUnit.setReg_form (u : SoundUnit) (a : Nat) (v : Byte) : ∃ n, u.setReg a v = { u with nr := n } := ⟨_, rfl⟩

theorem SoundUnit.channel_setReg (u : SoundUnit) (a : Nat) (v : Byte) (x : ChannelId) :
    (u.setReg a v).channel x = u.channel x := by
  obtain ⟨n, hn⟩ := u.setReg_form a v
  rw [hn]
  cases x <;> rfl

/-- A write to a stored register with the power on: the byte, then its effect (R467). -/
theorem SoundUnit.write_register (hp : u.power = true) (ha : a ≤ 0xFF25) (v : Byte) :
    u.write a v = (u.setReg a v).writeEffect a v := by
  rw [write, if_neg (by omega), if_neg (by omega), if_neg (by omega), if_pos hp]

theorem SoundUnit.write_register_off (hp : u.power = false) (ha : a ≤ 0xFF25) (v : Byte) : u.write a v = u := by
  rw [write, if_neg (by omega), if_neg (by omega), if_neg (by omega), if_neg (by rw [hp]; exact Bool.false_ne_true)]

theorem SoundUnit.write_wave (ha : 0xFF30 ≤ a) (u : SoundUnit) (v : Byte) :
    u.write a v = { u with wave := u.wave.setIfInBounds (a - 0xFF30) v } := if_pos ha

theorem SoundUnit.write_unused (ha : 0xFF27 ≤ a) (ha' : a ≤ 0xFF2F) (u : SoundUnit) (v : Byte) : u.write a v = u := by
  rw [write, if_neg (by omega), if_neg (by omega), if_pos ha]

theorem SoundUnit.write_NR52 (u : SoundUnit) (v : Byte) : u.write 0xFF26 v = u.writeNR52 v := by
  rw [write, if_neg (by decide), if_pos rfl]

theorem SoundUnit.read_NR52 (u : SoundUnit) : u.read 0xFF26 = u.readNR52 := by
  rw [read, if_neg (by decide), if_pos rfl]

theorem SoundUnit.read_wave (ha : 0xFF30 ≤ a) (u : SoundUnit) : u.read a = (u.wave[a - 0xFF30]?).getD 0 := if_pos ha

/-- A channel replaced by itself. -/
theorem SoundUnit.setChannel_self (u : SoundUnit) (x : ChannelId) : u.setChannel x (u.channel x) = u := by
  cases x <;> rfl

/-- A DAC that is off disables its channel; one that is on leaves it (R492). -/
theorem SoundUnit.dacWrite_eq (u : SoundUnit) (x : ChannelId) :
    u.dacWrite x = u.setEnabled x ((u.channel x).enabled && u.dacOn x) := by
  rw [dacWrite]
  cases u.dacOn x
  · rw [Bool.and_false]
    rfl
  · rw [Bool.and_true]
    exact (u.setChannel_self x).symm

/-- The top five bits of an envelope register, in numbers (R474). -/
theorem and_F8_ne_zero (v : Byte) : (v &&& 0xF8 != 0) = decide (8 ≤ v.toNat) := by
  revert v
  decide

theorem getLsbD_seven (v : Byte) : v.getLsbD 7 = decide (128 ≤ v.toNat) := by
  revert v
  decide

theorem SoundUnit.dacOn_c1 (u : SoundUnit) : u.dacOn .c1 = decide (8 ≤ (u.reg 0xFF12).toNat) := and_F8_ne_zero _
theorem SoundUnit.dacOn_c2 (u : SoundUnit) : u.dacOn .c2 = decide (8 ≤ (u.reg 0xFF17).toNat) := and_F8_ne_zero _
theorem SoundUnit.dacOn_c3 (u : SoundUnit) : u.dacOn .c3 = decide (128 ≤ (u.reg 0xFF1A).toNat) := getLsbD_seven _
theorem SoundUnit.dacOn_c4 (u : SoundUnit) : u.dacOn .c4 = decide (8 ≤ (u.reg 0xFF21).toNat) := and_F8_ne_zero _

/-- A write that changes its byte alone (R473 to R478). -/
def plainSoundRegisters : List Nat := [0xFF10, 0xFF13, 0xFF15, 0xFF18, 0xFF1C, 0xFF1D, 0xFF1F, 0xFF22, 0xFF24, 0xFF25]

/-- The control registers, of which only bit 7 has an effect (R473). -/
def controlRegisters : List Nat := [0xFF14, 0xFF19, 0xFF1E, 0xFF23]

theorem SoundUnit.writeEffect_plain (ha : a ∈ plainSoundRegisters) (u : SoundUnit) (v : Byte) : u.writeEffect a v = u := by
  simp only [plainSoundRegisters, List.mem_cons, List.not_mem_nil, or_false] at ha
  obtain rfl | rfl | rfl | rfl | rfl | rfl | rfl | rfl | rfl | rfl := ha <;> rfl

theorem SoundUnit.writeEffect_control (ha : a ∈ controlRegisters) (hv : v.getLsbD 7 = false) (u : SoundUnit) :
    u.writeEffect a v = u := by
  have htrig (x : ChannelId) : (if v.getLsbD 7 then u.trigger x else u) = u := if_neg (Bool.eq_false_iff.1 hv)
  simp only [controlRegisters, List.mem_cons, List.not_mem_nil, or_false] at ha
  obtain rfl | rfl | rfl | rfl := ha
  · exact htrig .c1
  · exact htrig .c2
  · exact htrig .c3
  · exact htrig .c4

theorem SoundUnit.reg_eq_of_nr {w : SoundUnit} (h : w.nr = u.nr) (a : Nat) : w.reg a = u.reg a := by
  rw [reg, reg, h]

theorem SoundUnit.nr_setChannel (u : SoundUnit) (x : ChannelId) (c : Channel) : (u.setChannel x c).nr = u.nr := by
  cases x <;> rfl

theorem SoundUnit.nr_sweepCheck (u : SoundUnit) : u.sweepCheck.nr = u.nr := by
  unfold sweepCheck
  split <;> rfl

theorem SoundUnit.nr_triggerUnit (u : SoundUnit) (x : ChannelId) : (u.triggerUnit x).nr = u.nr := by
  cases x with
  | c1 =>
    unfold triggerUnit
    dsimp only
    split
    · exact nr_sweepCheck _
    · rfl
  | c2 | c3 | c4 => rfl

theorem SoundUnit.nr_dacWrite (u : SoundUnit) (x : ChannelId) : (u.dacWrite x).nr = u.nr := by
  rw [dacWrite_eq]
  exact nr_setChannel ..

/-- A trigger ends like a write to the register of the DAC (R490, R492). -/
theorem SoundUnit.trigger_eq (u : SoundUnit) (x : ChannelId) : u.trigger x =
    ((u.setChannel x
      { enabled := true
        length := if (u.channel x).length = 0 then x.fullLength else (u.channel x).length
        timer := u.period x }).triggerUnit x).dacWrite x := rfl

theorem SoundUnit.nr_trigger (u : SoundUnit) (x : ChannelId) : (u.trigger x).nr = u.nr := by
  rw [trigger_eq, nr_dacWrite, nr_triggerUnit, nr_setChannel]

/-- The effect of a write: a length, a DAC, or a trigger (R473 to R477). -/
theorem SoundUnit.writeEffect_keeps {P : SoundUnit → Prop} (hu : P u) (a : Nat) (v : Byte)
    (hlength : ∀ x n, n ≤ x.fullLength → P (u.setLength x n))
    (hdac : ∀ x, P (u.dacWrite x)) (htrigger : ∀ x, P (u.trigger x)) :
    P (u.writeEffect a v) := by
  have hload : 64 - (v.extractLsb' 0 6).toNat ≤ 64 := Nat.sub_le ..
  have htrig (x : ChannelId) : P (if v.getLsbD 7 then u.trigger x else u) := by
    split
    · exact htrigger x
    · exact hu
  unfold writeEffect
  dsimp only
  exact iteInduction (fun _ => hlength .c1 _ hload) fun _ =>
    iteInduction (fun _ => hlength .c2 _ hload) fun _ =>
    iteInduction (fun _ => hlength .c3 _ (Nat.sub_le ..)) fun _ =>
    iteInduction (fun _ => hlength .c4 _ hload) fun _ =>
    iteInduction (fun _ => hdac .c1) fun _ =>
    iteInduction (fun _ => hdac .c2) fun _ =>
    iteInduction (fun _ => hdac .c3) fun _ =>
    iteInduction (fun _ => hdac .c4) fun _ =>
    iteInduction (fun _ => htrig .c1) fun _ =>
    iteInduction (fun _ => htrig .c2) fun _ =>
    iteInduction (fun _ => htrig .c3) fun _ =>
    iteInduction (fun _ => htrig .c4) fun _ => hu

/-- No effect of a write touches the stored bytes. -/
theorem SoundUnit.reg_writeEffect (u : SoundUnit) (a b : Nat) (v : Byte) : (u.writeEffect a v).reg b = u.reg b :=
  reg_eq_of_nr (writeEffect_keeps (P := fun w => w.nr = u.nr) rfl a v (fun x _ _ => u.nr_setChannel x _) u.nr_dacWrite u.nr_trigger) b

/-- The lengths that a length register loads, in numbers (R473). -/
theorem extract_six_toNat (v : Byte) : (v.extractLsb' 0 6).toNat = v.toNat % 64 := by
  rw [extractLsb'_eq_ofNat, BitVec.toNat_ofNat, pow_zero, Nat.div_one]

/-- A write to a length register (R473). -/
theorem SoundUnit.write_length (hp : u.power = true) (ha : a ≤ 0xFF25) {x : ChannelId} {n : Nat}
    (heffect : ∀ w : SoundUnit, w.writeEffect a v = w.setLength x n) :
    u.write a v = (u.setReg a v).setChannel x { u.channel x with length := n } := by
  rw [write_register hp ha, heffect, setLength, channel_setReg]

/-- A write to the register of a DAC (R474, R492). -/
theorem SoundUnit.write_dac (hp : u.power = true) (ha : a ≤ 0xFF25) {x : ChannelId} {on : Bool}
    (heffect : ∀ w : SoundUnit, w.writeEffect a v = w.dacWrite x) (hon : (u.setReg a v).dacOn x = on) :
    u.write a v = (u.setReg a v).setChannel x { u.channel x with enabled := (u.channel x).enabled && on } := by
  rw [write_register hp ha, heffect, dacWrite_eq, setEnabled, channel_setReg, hon]

theorem SoundUnit.reg_setReg_same (u : SoundUnit) (v : Byte) (ha : 0xFF10 ≤ a) (ha' : a ≤ 0xFF25) : (u.setReg a v).reg a = v := by
  rw [reg_setReg u v ha ha' ha, if_pos rfl]

theorem readMask_eq (ha : 0xFF10 ≤ a) (ha' : a ≤ 0xFF25) : readMask a = Claims.soundMasks.getD (a - 0xFF10) 0 := by
  interval_cases a <;> rfl

theorem SoundUnit.writeNR52_same (h : u.power = v.getLsbD 7) : u.writeNR52 v = u := by
  rw [writeNR52, ← h]
  cases hp : u.power <;> simp

theorem SoundUnit.readNR52_eq (u : SoundUnit) : u.readNR52 = BitVec.ofNat 8 (u.power.toNat * 128 + 0x70 +
    u.ch4.enabled.toNat * 8 + u.ch3.enabled.toNat * 4 + u.ch2.enabled.toNat * 2 + u.ch1.enabled.toNat) := by
  have hbits (p e4 e3 e2 e1 : Bool) : (BitVec.ofBool p ++ 0b111#3 ++ BitVec.ofBool e4 ++ BitVec.ofBool e3 ++ BitVec.ofBool e2
      ++ BitVec.ofBool e1 : Byte) = BitVec.ofNat 8 (p.toNat * 128 + 0x70 + e4.toNat * 8 + e3.toNat * 4 + e2.toNat * 2 +
        e1.toNat) := by
    revert p e4 e3 e2 e1
    decide
  exact hbits ..

end Sys2Proof.Machine

namespace Sys2Proof.Proofs

open Sys2Proof.Machine

/-- Settles O37: the register written, then its effect. -/
theorem soundRegisters : Obligations.SoundRegisters := by
  refine ⟨fun u a v ha ha' => ?stored, fun u a b v ha ha' hb hb' => ?bytes,
    fun u v hp => ?effects, fun u => (u.read_NR52).trans u.readNR52_eq, fun u a v ha ha' => ?unused,
    fun u a b v ha ha' hb hb' => ?wave, fun u k => ?table, fun u v => ?switch⟩
  case stored =>
    refine ⟨?_, fun hp => ?_, fun hp => SoundUnit.write_register_off hp ha' v⟩
    · rw [SoundUnit.read, if_neg (by omega), if_neg (by omega), if_neg (by omega), readMask_eq ha ha']
    · rw [SoundUnit.write_register hp ha', SoundUnit.reg_writeEffect, SoundUnit.reg_setReg_same u v ha ha']
  case bytes =>
    refine ⟨SoundUnit.reg_setReg u v ha ha' hb, ?_⟩
    obtain ⟨n, hn⟩ := u.setReg_form a v
    rw [hn]
  case effects =>
    have hwrite {a : Nat} (ha : a ≤ 0xFF25) := SoundUnit.write_register hp ha v
    have hstored {a : Nat} (ha : 0xFF10 ≤ a) (ha' : a ≤ 0xFF25) := u.reg_setReg_same v ha ha'
    refine ⟨fun a ha => ?_, fun a ha hv => ?_, ?_, ?_, ?_, ?_, ?_, ?_, ?_, ?_⟩
    · exact (hwrite ((by decide : ∀ a ∈ plainSoundRegisters, a ≤ 0xFF25) a ha)).trans (SoundUnit.writeEffect_plain ha _ _)
    · exact (hwrite ((by decide : ∀ a ∈ controlRegisters, a ≤ 0xFF25) a ha)).trans (SoundUnit.writeEffect_control ha hv _)
    · exact SoundUnit.write_length hp (by decide) (x := .c1) fun w => by rw [← extract_six_toNat]; rfl
    · exact SoundUnit.write_length hp (by decide) (x := .c2) fun w => by rw [← extract_six_toNat]; rfl
    · exact SoundUnit.write_length hp (by decide) (x := .c3) fun w => rfl
    · exact SoundUnit.write_length hp (by decide) (x := .c4) fun w => by rw [← extract_six_toNat]; rfl
    · exact SoundUnit.write_dac hp (by decide) (x := .c1) (fun w => rfl)
        (by rw [SoundUnit.dacOn_c1, hstored (by decide) (by decide)])
    · exact SoundUnit.write_dac hp (by decide) (x := .c2) (fun w => rfl)
        (by rw [SoundUnit.dacOn_c2, hstored (by decide) (by decide)])
    · exact SoundUnit.write_dac hp (by decide) (x := .c3) (fun w => rfl)
        (by rw [SoundUnit.dacOn_c3, hstored (by decide) (by decide)])
    · exact SoundUnit.write_dac hp (by decide) (x := .c4) (fun w => rfl)
        (by rw [SoundUnit.dacOn_c4, hstored (by decide) (by decide)])
  case unused =>
    refine ⟨?_, SoundUnit.write_unused ha ha' u v⟩
    rw [SoundUnit.read, if_neg (by omega), if_neg (by omega), if_pos ha]
  case wave =>
    rw [SoundUnit.write_wave ha, SoundUnit.read_wave hb, SoundUnit.read_wave hb, Vector.getElem?_setIfInBounds,
      if_pos (show a - 0xFF30 < 16 by omega)]
    by_cases h : b = a
    · rw [h, if_pos rfl, if_pos rfl]
      rfl
    · rw [if_neg (by omega), if_neg h]
  case table =>
    rw [SoundUnit.read_wave (by omega), Nat.add_sub_cancel_left, Vector.getElem?_eq_getElem k.isLt]
    rfl
  case switch =>
    rw [SoundUnit.write_NR52]
    refine ⟨fun hp hv => ?_, fun hp hv => ?_, SoundUnit.writeNR52_same⟩
    · rw [SoundUnit.writeNR52, if_neg (Bool.eq_false_iff.1 hv), if_pos hp]
      rfl
    · rw [SoundUnit.writeNR52, if_pos hv, if_neg (Bool.eq_false_iff.1 hp)]

end Sys2Proof.Proofs
end

section
/-! The fields of the sound registers in numbers (R473 to R477, R484), and the trigger of each channel (R490). -/

namespace Sys2Proof.Machine

variable {u : SoundUnit} {v : Byte}

/-- A field of a byte in numbers. -/
theorem field_toNat (v : Byte) (i n : Nat) : (v.extractLsb' i n).toNat = v.toNat / 2 ^ i % 2 ^ n := by
  rw [extractLsb'_eq_ofNat, BitVec.toNat_ofNat]

theorem SoundUnit.freq_eq (u : SoundUnit) (low : Nat) :
    u.freq low = (u.reg (low + 1)).toNat % 8 * 256 + (u.reg low).toNat := by
  rw [freq, append_toNat, field_toNat, pow_zero, Nat.div_one]
  rfl

/-- The frequency after a sweep by the fields of NR10 (R484). -/
def sweptFreq (nr10 : Byte) (f : Nat) : Nat :=
  if nr10.getLsbD 3 then f - f / 2 ^ (nr10.toNat % 8) else f + f / 2 ^ (nr10.toNat % 8)

theorem SoundUnit.sweepFreq_eq (u : SoundUnit) : u.sweepFreq = sweptFreq (u.reg 0xFF10) u.shadow := by
  rw [sweepFreq, sweptFreq, field_toNat, pow_zero, Nat.div_one, Nat.shiftRight_eq_div_pow]
  rfl

/-- The period field of NR10 (R473). -/
def sweepPeriod (nr10 : Byte) : Nat := nr10.toNat / 16 % 8

theorem SoundUnit.sweepReload_eq (u : SoundUnit) :
    u.sweepReload = if sweepPeriod (u.reg 0xFF10) = 0 then 8 else sweepPeriod (u.reg 0xFF10) := by
  rw [sweepReload, field_toNat]
  rfl

theorem SoundUnit.sweepCheck_eq (u : SoundUnit) : u.sweepCheck = { u with
    ch1 := { u.ch1 with enabled := u.ch1.enabled && decide (sweptFreq (u.reg 0xFF10) u.shadow ≤ 2047) } } := by
  rw [sweepCheck, sweepFreq_eq]
  split
  · rw [decide_eq_false (by omega), Bool.and_false]
    rfl
  · rw [decide_eq_true (by omega), Bool.and_true]

theorem extract_ne_zero (v : Byte) (i n : Nat) : (v.extractLsb' i n != 0) = decide (v.toNat / 2 ^ i % 2 ^ n ≠ 0) := by
  rw [Bool.eq_iff_iff, bne_iff_ne, decide_eq_true_iff, ← field_toNat]
  exact not_congr BitVec.toNat_eq

theorem Envelope.start_eq (r : Byte) : Envelope.start r = { volume := r.toNat / 16, envTimer := r.toNat % 8 } := by
  have hlt : r.toNat / 16 % 16 = r.toNat / 16 := Nat.mod_eq_of_lt (by omega)
  rw [start, field_toNat, field_toNat, pow_zero, Nat.div_one]
  rw [show 2 ^ 4 = 16 from rfl, hlt]
  rfl

/-- The channel after a trigger, but for its enabled flag (R490). -/
def SoundUnit.triggered (u : SoundUnit) (x : ChannelId) (enabled : Bool) : Channel :=
  { enabled := enabled
    length := if (u.channel x).length = 0 then x.fullLength else (u.channel x).length
    timer := u.period x }

theorem SoundUnit.triggerUnit_c1 (u : SoundUnit) : u.triggerUnit .c1 = { u with
    ch1 := { u.ch1 with enabled := u.ch1.enabled && (decide ((u.reg 0xFF10).toNat % 8 = 0) ||
      decide (sweptFreq (u.reg 0xFF10) (u.freq 0xFF13) ≤ 2047)) }
    env1 := Envelope.start (u.reg 0xFF12)
    shadow := u.freq 0xFF13
    sweepTimer := u.sweepReload
    sweepEnabled := decide (sweepPeriod (u.reg 0xFF10) ≠ 0) || decide ((u.reg 0xFF10).toNat % 8 ≠ 0) } := by
  have hshift : (u.reg 0xFF10).extractLsb' 0 3 = 0 ↔ (u.reg 0xFF10).toNat % 8 = 0 := by
    rw [← BitVec.toNat_inj, field_toNat, pow_zero, Nat.div_one]
    rfl
  have henabled : ((u.reg 0xFF10).extractLsb' 4 3 != 0 || (u.reg 0xFF10).extractLsb' 0 3 != 0) =
      (decide (sweepPeriod (u.reg 0xFF10) ≠ 0) || decide ((u.reg 0xFF10).toNat % 8 ≠ 0)) := by
    rw [extract_ne_zero, extract_ne_zero, pow_zero, Nat.div_one]
    rfl
  unfold triggerUnit
  dsimp only
  rw [henabled]
  by_cases h : (u.reg 0xFF10).toNat % 8 = 0
  · rw [if_neg (not_not.2 (hshift.2 h)), decide_eq_true h, Bool.true_or, Bool.and_true]
  · rw [if_pos (mt hshift.1 h), sweepCheck_eq, decide_eq_false h, Bool.false_or]
    rfl

theorem SoundUnit.trigger_c1 (u : SoundUnit) : u.trigger .c1 = { u with
    ch1 := u.triggered .c1 ((decide ((u.reg 0xFF10).toNat % 8 = 0) ||
      decide (sweptFreq (u.reg 0xFF10) (u.freq 0xFF13) ≤ 2047)) && u.dacOn .c1)
    env1 := Envelope.start (u.reg 0xFF12)
    shadow := u.freq 0xFF13
    sweepTimer := u.sweepReload
    sweepEnabled := decide (sweepPeriod (u.reg 0xFF10) ≠ 0) || decide ((u.reg 0xFF10).toNat % 8 ≠ 0) } := by
  rw [trigger_eq, dacWrite_eq, triggerUnit_c1]
  rfl

theorem SoundUnit.trigger_c2 (u : SoundUnit) : u.trigger .c2 = { u with
    ch2 := u.triggered .c2 (u.dacOn .c2)
    env2 := Envelope.start (u.reg 0xFF17) } := by
  rw [trigger_eq, dacWrite_eq]
  rfl

theorem SoundUnit.trigger_c3 (u : SoundUnit) : u.trigger .c3 = { u with
    ch3 := u.triggered .c3 (u.dacOn .c3)
    sampleIndex := 0 } := by
  rw [trigger_eq, dacWrite_eq]
  rfl

theorem SoundUnit.trigger_c4 (u : SoundUnit) : u.trigger .c4 = { u with
    ch4 := u.triggered .c4 (u.dacOn .c4)
    env4 := Envelope.start (u.reg 0xFF21)
    lfsr := 0x7FFF } := by
  rw [trigger_eq, dacWrite_eq]
  rfl

theorem SoundUnit.period_c1 (u : SoundUnit) : u.period .c1 = (2048 - u.freq 0xFF13) * 4 := rfl
theorem SoundUnit.period_c2 (u : SoundUnit) : u.period .c2 = (2048 - u.freq 0xFF18) * 4 := rfl
theorem SoundUnit.period_c3 (u : SoundUnit) : u.period .c3 = (2048 - u.freq 0xFF1D) * 2 := rfl

theorem SoundUnit.period_c4 (u : SoundUnit) : u.period .c4 =
    (if (u.reg 0xFF22).toNat % 8 = 0 then 8 else 16 * ((u.reg 0xFF22).toNat % 8)) * 2 ^ ((u.reg 0xFF22).toNat / 16) := by
  have hzero : (u.reg 0xFF22).extractLsb' 0 3 = 0 ↔ (u.reg 0xFF22).toNat % 8 = 0 := by
    rw [← BitVec.toNat_inj, field_toNat, pow_zero, Nat.div_one]
    rfl
  have hlt : (u.reg 0xFF22).toNat / 16 % 16 = (u.reg 0xFF22).toNat / 16 := Nat.mod_eq_of_lt (by omega)
  show noiseDivisor ((u.reg 0xFF22).extractLsb' 0 3) <<< ((u.reg 0xFF22).extractLsb' 4 4).toNat = _
  rw [Nat.shiftLeft_eq, noiseDivisor, if_congr hzero rfl rfl, field_toNat, field_toNat, pow_zero, Nat.div_one,
    show 2 ^ 4 = 16 from rfl, hlt]
  rfl

theorem SoundUnit.triggered_setReg (u : SoundUnit) (a : Nat) (v : Byte) (x : ChannelId) (enabled : Bool) :
    (u.setReg a v).triggered x enabled =
      { enabled := enabled
        length := if (u.channel x).length = 0 then x.fullLength else (u.channel x).length
        timer := (u.setReg a v).period x } := by
  rw [triggered, channel_setReg]

theorem SoundUnit.reg_setReg_other (u : SoundUnit) {a b : Nat} (v : Byte) (ha : 0xFF10 ≤ a) (ha' : a ≤ 0xFF25) (hb : 0xFF10 ≤ b)
    (hne : b ≠ a) : (u.setReg a v).reg b = u.reg b := by
  rw [reg_setReg u v ha ha' hb, if_neg hne]

/-- The frequency after its high register is stored (R473). -/
theorem SoundUnit.freq_setReg (u : SoundUnit) {low : Nat} (v : Byte) (hlo : 0xFF10 ≤ low) (hhi : low + 1 ≤ 0xFF25) :
    (u.setReg (low + 1) v).freq low = v.toNat % 8 * 256 + (u.reg low).toNat := by
  rw [freq_eq, reg_setReg_same u v (by omega) hhi, reg_setReg_other u v (by omega) hhi hlo (by omega)]

/-- A write to a control register with bit 7 set (R473). -/
theorem SoundUnit.write_trigger (hp : u.power = true) (hv : v.getLsbD 7 = true) (x : ChannelId) :
    u.write x.control v = (u.setReg x.control v).trigger x := by
  rw [write_register hp (by cases x <;> decide)]
  cases x <;> exact if_pos hv

end Sys2Proof.Machine

namespace Sys2Proof.Proofs

open Sys2Proof.Machine

/-- Settles O38: the control register stored, then the trigger of its channel. -/
theorem triggerReloads : Obligations.TriggerReloads := by
  intro u v hp hv reload freq t1 t2 t3 t4 sh sp swept
  have hwrite (x : ChannelId) := SoundUnit.write_trigger hp hv x
  refine ⟨?c1, ?c2, ?c3, ?c4⟩
  case c1 =>
    have hreg {b : Nat} (hb : 0xFF10 ≤ b) (hne : b ≠ 0xFF14) : (u.setReg 0xFF14 v).reg b = u.reg b :=
      u.reg_setReg_other v (by decide) (by decide) hb hne
    have hfreq : (u.setReg 0xFF14 v).freq 0xFF13 = freq 0xFF13 := u.freq_setReg v (by decide) (by decide)
    have ht : t1 = _ := (hwrite .c1).trans (SoundUnit.trigger_c1 _)
    rw [SoundUnit.triggered_setReg, SoundUnit.period_c1, ChannelId.control, hfreq, SoundUnit.dacOn_c1, SoundUnit.sweepReload_eq,
      Envelope.start_eq, hreg (by decide) (by decide), hreg (by decide) (by decide)] at ht
    rw [ht]
    refine ⟨?_, rfl, rfl, rfl, ?_⟩
    · exact congrArg (fun e => Channel.mk e _ _) (Bool.and_comm ..)
    · exact (Bool.decide_or ..).symm
  case c2 =>
    have hreg {b : Nat} (hb : 0xFF10 ≤ b) (hne : b ≠ 0xFF19) : (u.setReg 0xFF19 v).reg b = u.reg b :=
      u.reg_setReg_other v (by decide) (by decide) hb hne
    have hfreq : (u.setReg 0xFF19 v).freq 0xFF18 = freq 0xFF18 := u.freq_setReg v (by decide) (by decide)
    have ht : t2 = _ := (hwrite .c2).trans (SoundUnit.trigger_c2 _)
    rw [SoundUnit.triggered_setReg, SoundUnit.period_c2, ChannelId.control, hfreq, SoundUnit.dacOn_c2,
      Envelope.start_eq, hreg (by decide) (by decide)] at ht
    rw [ht]
    exact ⟨rfl, rfl⟩
  case c3 =>
    have hfreq : (u.setReg 0xFF1E v).freq 0xFF1D = freq 0xFF1D := u.freq_setReg v (by decide) (by decide)
    have hreg : (u.setReg 0xFF1E v).reg 0xFF1A = u.reg 0xFF1A :=
      u.reg_setReg_other v (by decide) (by decide) (by decide) (by decide)
    have ht : t3 = _ := (hwrite .c3).trans (SoundUnit.trigger_c3 _)
    rw [SoundUnit.triggered_setReg, SoundUnit.period_c3, ChannelId.control, hfreq, SoundUnit.dacOn_c3, hreg,
      ← getLsbD_seven] at ht
    rw [ht]
    exact ⟨rfl, rfl⟩
  case c4 =>
    have hreg {b : Nat} (hb : 0xFF10 ≤ b) (hne : b ≠ 0xFF23) : (u.setReg 0xFF23 v).reg b = u.reg b :=
      u.reg_setReg_other v (by decide) (by decide) hb hne
    have ht : t4 = _ := (hwrite .c4).trans (SoundUnit.trigger_c4 _)
    rw [SoundUnit.triggered_setReg, SoundUnit.period_c4, ChannelId.control, SoundUnit.dacOn_c4, Envelope.start_eq,
      hreg (by decide) (by decide), hreg (by decide) (by decide)] at ht
    rw [ht]
    exact ⟨rfl, rfl, rfl, rfl, rfl⟩

end Sys2Proof.Proofs
end

section
/-! The clocks of the sound unit (R480 to R484, R500 to R504, R535): what each does in numbers. -/

namespace Sys2Proof.Machine

variable {u : SoundUnit}

/-- The length clock of a channel (R481). -/
theorem SoundUnit.clockLengthOf_eq (u : SoundUnit) (x : ChannelId) :
    u.clockLengthOf x = u.setChannel x (Claims.lengthClocked (u.reg x.control) (u.channel x)) := by
  unfold clockLengthOf Claims.lengthClocked
  dsimp only
  split
  · rename_i h
    have henabled : ((u.channel x).enabled && (u.channel x).length - 1 != 0) =
        if (u.channel x).length = 1 then false else (u.channel x).enabled := by
      by_cases h1 : (u.channel x).length = 1
      · rw [if_pos h1, h1]
        exact Bool.and_false _
      · rw [if_neg h1, bne_iff_ne.2 (by omega), Bool.and_true]
    rw [henabled]
  · exact (u.setChannel_self x).symm

theorem SoundUnit.clockLength_eq (u : SoundUnit) : u.clockLength = { u with
    ch1 := Claims.lengthClocked (u.reg 0xFF14) u.ch1
    ch2 := Claims.lengthClocked (u.reg 0xFF19) u.ch2
    ch3 := Claims.lengthClocked (u.reg 0xFF1E) u.ch3
    ch4 := Claims.lengthClocked (u.reg 0xFF23) u.ch4 } := by
  rw [clockLength, clockLengthOf_eq, clockLengthOf_eq, clockLengthOf_eq, clockLengthOf_eq]
  rfl

/-- The clock of an envelope (R482). -/
theorem Envelope.clock_eq (e : Envelope) (r : Byte) : e.clock r = Claims.envelopeClocked r e := by
  have hperiod : (r.extractLsb' 0 3).toNat = r.toNat % 8 := by
    rw [field_toNat, pow_zero, Nat.div_one]
    rfl
  unfold clock Claims.envelopeClocked
  dsimp only
  rw [hperiod]
  by_cases hp : r.toNat % 8 = 0
  · rw [if_pos hp, if_pos hp]
  · rw [if_neg hp, if_neg hp]
    by_cases ht : 1 < e.envTimer
    · rw [if_neg (by omega), if_pos ht]
    · rw [if_pos (by omega), if_neg ht]
      split <;> rfl

theorem SoundUnit.clockEnvelope_eq (u : SoundUnit) : u.clockEnvelope = { u with
    env1 := Claims.envelopeClocked (u.reg 0xFF12) u.env1
    env2 := Claims.envelopeClocked (u.reg 0xFF17) u.env2
    env4 := Claims.envelopeClocked (u.reg 0xFF21) u.env4 } := by
  rw [clockEnvelope, Envelope.clock_eq, Envelope.clock_eq, Envelope.clock_eq]

theorem SoundUnit.sequencer_stop {c : Nat} (h : u.fsAcc + c < 8192) :
    u.advanceFrameSequencer c = { u with fsAcc := u.fsAcc + c } := by
  rw [advanceFrameSequencer, countUp_stop h]
  rfl

theorem SoundUnit.sequencer_turn {c : Nat} (h : 8192 ≤ u.fsAcc + c) (h' : u.fsAcc + c < 16384) :
    u.advanceFrameSequencer c = { u with fsAcc := u.fsAcc + c - 8192 }.sequencerTick := by
  have hcount : countUp 8192 u.fsAcc c = (u.fsAcc + c - 8192, 1) := by
    rw [countUp_turn (by decide) h, countUp_stop (by omega), Nat.add_zero]
  rw [advanceFrameSequencer, hcount]
  exact congrFun (Function.iterate_one _) _

/-- The low bits of a byte replaced, in numbers (R483). -/
theorem high_or_low (v : Byte) {k : Nat} (hk : k < 8) : (v &&& 0xF8) ||| BitVec.ofNat 8 k = BitVec.ofNat 8 (v.toNat / 8 * 8 + k) := by
  have hhigh : (v &&& 0xF8).toNat = (v.toNat / 8) <<< 3 := by
    revert v
    decide
  apply BitVec.eq_of_toNat_eq
  rw [BitVec.toNat_or, hhigh, BitVec.toNat_ofNat, BitVec.toNat_ofNat, Nat.mod_eq_of_lt (by omega), Nat.mod_eq_of_lt (by omega),
    ← Nat.shiftLeft_add_eq_or_of_lt hk, Nat.shiftLeft_eq]

/-- The sweep clock with its timer reloaded (R483). -/
def SoundUnit.sweepReloaded (u : SoundUnit) : SoundUnit :=
  { u with sweepTimer := if sweepPeriod (u.reg 0xFF10) = 0 then 8 else sweepPeriod (u.reg 0xFF10) }

/-- A sweep with its frequency committed and checked once more (R483). -/
def SoundUnit.sweepCommitted (u : SoundUnit) (f : Nat) : SoundUnit :=
  { (u.sweepReloaded.setReg 0xFF13 (BitVec.ofNat 8 (f % 256))).setReg 0xFF14
      (BitVec.ofNat 8 ((u.reg 0xFF14).toNat / 8 * 8 + f / 256)) with
    shadow := f
    ch1 := { u.ch1 with enabled := u.ch1.enabled && decide (sweptFreq (u.reg 0xFF10) f ≤ 2047) } }

theorem SoundUnit.clockSweep_wait (h : 1 < u.sweepTimer) : u.clockSweep = { u with sweepTimer := u.sweepTimer - 1 } := by
  rw [clockSweep, if_neg (by omega)]

theorem SoundUnit.sweepReloaded_eq (u : SoundUnit) (n : Nat) :
    { u with sweepTimer := ({ u with sweepTimer := n } : SoundUnit).sweepReload } = u.sweepReloaded := by
  rw [sweepReload_eq]
  rfl

/-- The sweep clock when its timer has run out (R483). -/
theorem SoundUnit.clockSweep_run (h : u.sweepTimer ≤ 1) : u.clockSweep =
    if (u.sweepEnabled && (u.reg 0xFF10).extractLsb' 4 3 != 0) = true then
      if u.sweepReloaded.sweepFreq ≤ 2047 ∧ (u.sweepReloaded.sweepCheck.reg 0xFF10).extractLsb' 0 3 ≠ 0 then
        (u.sweepReloaded.sweepCheck.sweepCommit u.sweepReloaded.sweepFreq).sweepCheck
      else u.sweepReloaded.sweepCheck
    else u.sweepReloaded := by
  rw [← sweepReloaded_eq u (u.sweepTimer - 1)]
  exact if_pos (by omega)

theorem sweep_clocked_iff (enabled : Bool) (nr10 : Byte) :
    (enabled && nr10.extractLsb' 4 3 != 0) = true ↔ enabled = true ∧ sweepPeriod nr10 ≠ 0 := by
  rw [Bool.and_eq_true, extract_ne_zero, decide_eq_true_iff]
  rfl

theorem sweep_shift_iff (nr10 : Byte) : nr10.extractLsb' 0 3 ≠ 0 ↔ nr10.toNat % 8 ≠ 0 := by
  rw [← bne_iff_ne, extract_ne_zero, decide_eq_true_iff, pow_zero, Nat.div_one]
  rfl

theorem SoundUnit.sweepCheck_of_le (h : sweptFreq (u.reg 0xFF10) u.shadow ≤ 2047) : u.sweepCheck = u :=
  if_neg (by rw [sweepFreq_eq]; omega)

/-- A sweep that is not clocked, or that changes nothing (R483). -/
theorem SoundUnit.clockSweep_rest (h : u.sweepTimer ≤ 1) (hrest : u.sweepEnabled = false ∨ sweepPeriod (u.reg 0xFF10) = 0 ∨
    sweptFreq (u.reg 0xFF10) u.shadow ≤ 2047 ∧ (u.reg 0xFF10).toNat % 8 = 0) : u.clockSweep = u.sweepReloaded := by
  rw [clockSweep_run h, if_congr (sweep_clocked_iff ..) rfl rfl]
  obtain hoff | hzero | ⟨hle, hshift⟩ := hrest
  · exact if_neg fun hon => Bool.false_ne_true (hoff.symm.trans hon.1)
  · exact if_neg fun hon => hon.2 hzero
  · have hsame : u.sweepReloaded.sweepCheck = u.sweepReloaded := sweepCheck_of_le hle
    rw [hsame]
    split
    · exact if_neg fun hrun => (sweep_shift_iff _).1 hrun.2 hshift
    · rfl

/-- A frequency that is too high disables the channel without commit (R483). -/
theorem SoundUnit.clockSweep_overflow (h : u.sweepTimer ≤ 1) (hon : u.sweepEnabled = true)
    (hperiod : sweepPeriod (u.reg 0xFF10) ≠ 0)
    (hover : 2047 < sweptFreq (u.reg 0xFF10) u.shadow) :
    u.clockSweep = { u.sweepReloaded with ch1 := { u.ch1 with enabled := false } } := by
  have hfreq : u.sweepReloaded.sweepFreq = sweptFreq (u.reg 0xFF10) u.shadow := sweepFreq_eq _
  rw [clockSweep_run h, if_pos ((sweep_clocked_iff ..).2 ⟨hon, hperiod⟩), hfreq, if_neg fun hrun => by omega]
  exact if_pos (by rw [hfreq]; exact hover)

theorem SoundUnit.sweepCommit_eq (u : SoundUnit) {f : Nat} (hf : f ≤ 2047) : u.sweepCommit f =
    { (u.setReg 0xFF13 (BitVec.ofNat 8 (f % 256))).setReg 0xFF14
        (BitVec.ofNat 8 ((u.reg 0xFF14).toNat / 8 * 8 + f / 256)) with shadow := f } := by
  have hlow : BitVec.ofNat 8 (f % 256) = BitVec.ofNat 8 f := BitVec.eq_of_toNat_eq (by simp)
  rw [← high_or_low _ (show f / 256 < 8 by omega), hlow, ← Nat.shiftRight_eq_div_pow f 8]
  unfold sweepCommit setReg
  rfl

theorem SoundUnit.ch1_setReg (u : SoundUnit) (a : Nat) (v : Byte) : (u.setReg a v).ch1 = u.ch1 := u.channel_setReg a v .c1

theorem SoundUnit.sweepCheck_shadow (u : SoundUnit) (f : Nat) : ({ u with shadow := f } : SoundUnit).sweepCheck = { u with
    shadow := f
    ch1 := { u.ch1 with enabled := u.ch1.enabled && decide (sweptFreq (u.reg 0xFF10) f ≤ 2047) } } := sweepCheck_eq _

theorem SoundUnit.clockSweep_commit (h : u.sweepTimer ≤ 1) (hon : u.sweepEnabled = true)
    (hperiod : sweepPeriod (u.reg 0xFF10) ≠ 0)
    (hle : sweptFreq (u.reg 0xFF10) u.shadow ≤ 2047) (hshift : (u.reg 0xFF10).toNat % 8 ≠ 0) :
    u.clockSweep = u.sweepCommitted (sweptFreq (u.reg 0xFF10) u.shadow) := by
  have hfreq : u.sweepReloaded.sweepFreq = sweptFreq (u.reg 0xFF10) u.shadow := sweepFreq_eq _
  have hsame : u.sweepReloaded.sweepCheck = u.sweepReloaded := sweepCheck_of_le hle
  rw [clockSweep_run h, if_pos ((sweep_clocked_iff ..).2 ⟨hon, hperiod⟩), hfreq, hsame,
    if_pos ⟨hle, (sweep_shift_iff _).2 hshift⟩, sweepCommit_eq _ hle, sweepCheck_shadow, sweepCommitted]
  rw [reg_setReg_other _ _ (by decide) (by decide) (by decide) (by decide),
    reg_setReg_other _ _ (by decide) (by decide) (by decide) (by decide), ch1_setReg, ch1_setReg]
  rfl

end Sys2Proof.Machine
end

section
/-! The channel timers (R500), however the cycles are split. -/

namespace Sys2Proof.Machine

theorem countDown_of_lt {period timer c : Nat} (h : timer ≤ c) (h' : c < timer + period) :
    countDown period timer c = (timer + period - c, 1) := by
  rw [countDown, if_neg (by omega), Nat.mod_eq_of_lt (by omega), Nat.div_eq_of_lt (by omega), Prod.mk.injEq]
  omega

/-- Counting down by two amounts one after the other is counting down by their sum (R500). -/
theorem countDown_add {period : Nat} (hp : 0 < period) (timer a b : Nat) : countDown period timer (a + b) =
    ((countDown period (countDown period timer a).1 b).1,
      (countDown period timer a).2 + (countDown period (countDown period timer a).1 b).2) := by
  by_cases ha : a < timer
  · rw [countDown_stop ha]
    by_cases hb : b < timer - a
    · rw [countDown_stop hb, countDown_stop (by omega), Nat.sub_sub]
      rfl
    · have hrest : a + b - timer = b - (timer - a) := by omega
      rw [countDown, if_neg (by omega), countDown, if_neg hb, hrest, Nat.zero_add]
  · have hmod := Nat.mod_lt (a - timer) hp
    have hsum : a + b - timer = (a - timer) % period + b + period * ((a - timer) / period) := by
      have := Nat.mod_add_div (a - timer) period
      omega
    have hfirst : countDown period timer a = (period - (a - timer) % period, (a - timer) / period + 1) := if_neg ha
    have hboth : countDown period timer (a + b) = (period - ((a - timer) % period + b) % period,
        ((a - timer) % period + b) / period + (a - timer) / period + 1) := by
      rw [countDown, if_neg (by omega), hsum, Nat.add_mul_mod_self_left, Nat.add_mul_div_left _ _ hp]
    rw [hfirst, hboth]
    by_cases hb : b < period - (a - timer) % period
    · rw [countDown_stop hb, Nat.mod_eq_of_lt (by omega), Nat.div_eq_of_lt (by omega), Nat.sub_sub, Nat.zero_add]
      rfl
    · have hturn : (a - timer) % period + b = b - (period - (a - timer) % period) + period := by omega
      have hsecond : countDown period (period - (a - timer) % period) b =
          (period - (b - (period - (a - timer) % period)) % period, (b - (period - (a - timer) % period)) / period + 1) :=
        if_neg hb
      rw [hsecond, hturn, Nat.add_mod_right, Nat.add_div_right _ hp, Prod.mk.injEq]
      omega

variable {u : SoundUnit}

namespace SoundUnit

theorem channel_setChannel (u : SoundUnit) (x : ChannelId) (c : Channel) : (u.setChannel x c).channel x = c := by
  cases x <;> rfl

theorem setChannel_setChannel (u : SoundUnit) (x : ChannelId) (c d : Channel) :
    (u.setChannel x c).setChannel x d = u.setChannel x d := by
  cases x <;> rfl

theorem period_congr {w : SoundUnit} (h : w.nr = u.nr) (x : ChannelId) : w.period x = u.period x := by
  have hreg := reg_eq_of_nr h
  cases x with
  | c1 | c2 | c3 => simp only [period, freq, hreg]
  | c4 => simp only [period, hreg]

theorem nr_advance (u : SoundUnit) (x : ChannelId) : (u.advance x).nr = u.nr := by
  cases x <;> rfl

/-- The waveform of a channel and its counters do not touch one another. -/
theorem advance_setChannel (u : SoundUnit) (x : ChannelId) (c : Channel) :
    (u.setChannel x c).advance x = (u.advance x).setChannel x c := by
  cases x <;> rfl

theorem iterate_advance_setChannel (x : ChannelId) (c : Channel) (n : Nat) (u : SoundUnit) :
    (fun w : SoundUnit => w.advance x)^[n] (u.setChannel x c) = ((fun w : SoundUnit => w.advance x)^[n] u).setChannel x c :=
  Function.Commute.iterate_left (f := fun w : SoundUnit => w.advance x) (g := fun w => w.setChannel x c)
    (fun w => w.advance_setChannel x c) n u

theorem freq_lt (u : SoundUnit) (low : Nat) : u.freq low < 2048 := BitVec.isLt _

theorem period_pos (u : SoundUnit) (x : ChannelId) : 0 < u.period x := by
  cases x with
  | c1 => have := u.freq_lt 0xFF13; rw [period_c1]; omega
  | c2 => have := u.freq_lt 0xFF18; rw [period_c2]; omega
  | c3 => have := u.freq_lt 0xFF1D; rw [period_c3]; omega
  | c4 =>
    rw [period_c4]
    refine Nat.mul_pos ?_ (Nat.two_pow_pos _)
    split <;> omega

theorem clockTimer_eq (u : SoundUnit) (x : ChannelId) (c : Nat) : u.clockTimer x c =
    ((fun w : SoundUnit => w.advance x)^[(countDown (u.period x) (u.channel x).timer c).2] u).setChannel x
      { u.channel x with timer := (countDown (u.period x) (u.channel x).timer c).1 } :=
  iterate_advance_setChannel ..

theorem iterate_advance_keeps (u : SoundUnit) (x : ChannelId) (n : Nat) :
    ((fun w : SoundUnit => w.advance x)^[n] u).nr = u.nr :=
  iterate_keeps (P := fun w : SoundUnit => w.nr = u.nr) (fun w hw => (w.nr_advance x).trans hw) n rfl

theorem clockTimer_add (u : SoundUnit) (x : ChannelId) (a b : Nat) :
    (u.clockTimer x a).clockTimer x b = u.clockTimer x (a + b) := by
  have hperiod : (u.clockTimer x a).period x = u.period x := by
    refine period_congr ?_ x
    rw [clockTimer_eq, nr_setChannel, iterate_advance_keeps]
  have hchannel : (u.clockTimer x a).channel x = { u.channel x with
      timer := (countDown (u.period x) (u.channel x).timer a).1 } := by
    rw [clockTimer_eq, channel_setChannel]
  rw [(u.clockTimer x a).clockTimer_eq, hperiod, hchannel, clockTimer_eq, iterate_advance_setChannel, setChannel_setChannel,
    ← Function.iterate_add_apply, u.clockTimer_eq, countDown_add (u.period_pos x), Nat.add_comm]

end SoundUnit

end Sys2Proof.Machine
end

section
/-! The outputs, the mixer and the samples (R502 to R504, R535, R536), and what the clocks keep. -/

namespace Sys2Proof.Machine

namespace SoundUnit

variable {u : SoundUnit}

/-- What every clock keeps, a step of the sequencer and of the channel timers keeps (R461). -/
theorem clockAll_keeps {P : SoundUnit → Prop} (hacc : ∀ u n, n < 8192 → P u → P { u with fsAcc := n })
    (hstep : ∀ u n, n < 8 → P u → P { u with fsStep := n }) (hlength : ∀ u x, P u → P (u.clockLengthOf x))
    (hsweep : ∀ u, P u → P u.clockSweep) (henvelope : ∀ u, P u → P u.clockEnvelope)
    (htimer : ∀ u x n, P u → P (u.setChannel x { u.channel x with timer := n })) (hadvance : ∀ u x, P u → P (u.advance x))
    (hu : P u) (c : Nat) : P (u.clockAll c) := by
  have timer {u : SoundUnit} (x : ChannelId) (h : P u) : P (u.clockTimer x c) :=
    iterate_keeps (P := P) (fun w hw => hadvance w x hw) _ (htimer _ _ _ h)
  have lengths {u : SoundUnit} (h : P u) : P u.clockLength := hlength _ .c4 (hlength _ .c3 (hlength _ .c2 (hlength _ .c1 h)))
  have tick (u : SoundUnit) (h : P u) : P u.sequencerTick := by
    refine hstep _ _ (Nat.mod_lt _ (by decide)) ?_
    refine iteInduction (fun _ => henvelope _ ?_) (fun _ => ?_) <;>
      refine iteInduction (fun _ => hsweep _ ?_) (fun _ => ?_) <;>
      exact iteInduction (fun _ => lengths h) (fun _ => h)
  have sequencer : P (u.advanceFrameSequencer c) := iterate_keeps tick _ (hacc _ _ (Nat.mod_lt _ (by decide)) hu)
  exact timer .c4 (timer .c3 (timer .c2 (timer .c1 sequencer)))

theorem clockSweep_cases (u : SoundUnit) :
    (1 < u.sweepTimer ∧ u.clockSweep = { u with sweepTimer := u.sweepTimer - 1 }) ∨ u.clockSweep = u.sweepReloaded ∨
    u.clockSweep = { u.sweepReloaded with ch1 := { u.ch1 with enabled := false } } ∨
    (sweptFreq (u.reg 0xFF10) u.shadow ≤ 2047 ∧ u.clockSweep = u.sweepCommitted (sweptFreq (u.reg 0xFF10) u.shadow)) := by
  by_cases h : 1 < u.sweepTimer
  · exact .inl ⟨h, clockSweep_wait h⟩
  · have h1 : u.sweepTimer ≤ 1 := by omega
    by_cases hrest : u.sweepEnabled = false ∨ sweepPeriod (u.reg 0xFF10) = 0
    · exact .inr (.inl (clockSweep_rest h1 (hrest.imp_right .inl)))
    · obtain ⟨hon, hperiod⟩ := not_or.1 hrest
      rw [Bool.not_eq_false] at hon
      by_cases hover : 2047 < sweptFreq (u.reg 0xFF10) u.shadow
      · exact .inr (.inr (.inl (clockSweep_overflow h1 hon hperiod hover)))
      · by_cases hshift : (u.reg 0xFF10).toNat % 8 = 0
        · exact .inr (.inl (clockSweep_rest h1 (.inr (.inr ⟨by omega, hshift⟩))))
        · exact .inr (.inr (.inr ⟨by omega, clockSweep_commit h1 hon hperiod (by omega) hshift⟩))

/-- A commit changes the frequency registers, the shadow and the enabled flag, and reloads the timer (R483). -/
theorem sweepCommitted_form (u : SoundUnit) (f : Nat) : ∃ n e, u.sweepCommitted f =
    { u.sweepReloaded with nr := n, shadow := f, ch1 := { u.ch1 with enabled := u.ch1.enabled && e } } := ⟨_, _, rfl⟩

/-- The sample clock is not touched by the other clocks. -/
theorem clockAll_sampleAcc (u : SoundUnit) (c : Nat) : (u.clockAll c).sampleAcc = u.sampleAcc := by
  refine clockAll_keeps (P := fun w => w.sampleAcc = u.sampleAcc) (fun _ _ _ h => h) (fun _ _ _ h => h) (fun w x h => ?_)
    (fun w h => ?_) (fun _ h => h) (fun w x _ h => ?_) (fun w x h => ?_) rfl c
  · rw [clockLengthOf_eq]
    cases x <;> exact h
  · obtain ⟨-, hw⟩ | hw | hw | ⟨-, hw⟩ := w.clockSweep_cases
    · rw [hw]; exact h
    · rw [hw]; exact h
    · rw [hw]; exact h
    · obtain ⟨n, e, hn⟩ := w.sweepCommitted_form (sweptFreq (w.reg 0xFF10) w.shadow)
      rw [hw, hn]
      exact h
  · cases x <;> exact h
  · cases x <;> exact h

theorem step_samples (u : SoundUnit) (cfg : Config) (c : Nat) :
    (u.step cfg c).1.sampleAcc = (u.sampleAcc + c * cfg.sampleRate) % cfg.cpuHz ∧
      (u.step cfg c).2.length = (u.sampleAcc + c * cfg.sampleRate) / cfg.cpuHz := by
  have hacc : (if u.power then u.clockAll c else u).sampleAcc = u.sampleAcc := by
    split
    · exact u.clockAll_sampleAcc c
    · rfl
  rw [step, generateSamples, hacc]
  exact ⟨rfl, List.length_replicate ..⟩

/-- The patterns of R502 by the two top bits of a duty register. -/
theorem dutyPattern_eq (v : Byte) : dutyPattern (v.extractLsb' 6 2) =
    [[0, 0, 0, 0, 0, 0, 0, 1], [1, 0, 0, 0, 0, 0, 0, 1], [1, 0, 0, 0, 0, 1, 1, 1], [0, 1, 1, 1, 1, 1, 1, 0]].getD
      (v.toNat / 64) [] := by
  revert v
  decide

theorem levelShift_eq (v : Byte) : levelShift (v.extractLsb' 5 2) = [4, 0, 1, 2].getD (v.toNat / 32 % 4) 0 := by
  revert v
  decide

theorem waveSample_eq (u : SoundUnit) : u.waveSample =
    if u.sampleIndex % 2 = 0 then ((u.wave[u.sampleIndex / 2]?).getD 0).toNat / 16
    else ((u.wave[u.sampleIndex / 2]?).getD 0).toNat % 16 := by
  rw [waveSample]
  generalize (u.wave[u.sampleIndex / 2]?).getD 0 = b
  have hlt : b.toNat / 16 % 16 = b.toNat / 16 := Nat.mod_eq_of_lt (by omega)
  rw [field_toNat, field_toNat, pow_zero, Nat.div_one, show 2 ^ 4 = 16 from rfl, hlt]

theorem noiseBit (u : SoundUnit) : (u.lfsr.getLsbD 0).toNat = u.lfsr.toNat % 2 := by
  rw [BitVec.getLsbD, Nat.toNat_testBit, pow_zero, Nat.div_one]

theorem volL_toNat (u : SoundUnit) : u.mixInput.volL.toNat = (u.reg 0xFF24).toNat / 16 % 8 := field_toNat _ 4 3

theorem volR_toNat (u : SoundUnit) : u.mixInput.volR.toNat = (u.reg 0xFF24).toNat % 8 := by
  rw [mixInput, field_toNat, pow_zero, Nat.div_one]
  rfl

/-- An output, where it is not 0 (R502 to R504). -/
theorem outOf_eq (u : SoundUnit) {x : ChannelId} {p : Prop} [Decidable p] (h : u.dacOn x = decide p) :
    u.outOf x = if (u.channel x).enabled = true ∧ p then u.generator x else 0 := by
  rw [outOf, h]
  exact if_congr (by rw [decide_eq_true_iff]) rfl rfl

theorem noisePeriod_eq (n : Nat) (hn : n < 8) : (if n = 0 then 8 else 16 * n) = [8, 16, 32, 48, 64, 80, 96, 112].getD n 0 := by
  interval_cases n <;> rfl

end SoundUnit

end Sys2Proof.Machine

namespace Sys2Proof.Proofs

open Sys2Proof.Machine

/-- Settles O40: each clock and each output in numbers; counting up and down adds over a split. -/
theorem soundClocks : Obligations.SoundClocks := by
  refine ⟨?step, fun u c => SoundUnit.sequencer_stop, fun u c h h' => SoundUnit.sequencer_turn h h', SoundUnit.clockLength_eq,
    SoundUnit.clockEnvelope_eq, ?sweep, ?periods, ?timers, ?outputs, ?mixer, ?samples⟩
  case step =>
    intro u cfg c clock on
    refine ⟨fun hp => ?_, fun hp => ?_⟩
    · rw [SoundUnit.step, if_neg (Bool.eq_false_iff.1 hp), SoundUnit.generateSamples, SoundUnit.mix_off hp]
      rfl
    · rw [SoundUnit.step, if_pos hp, SoundUnit.generateSamples, SoundUnit.clockAll_sampleAcc]
      rfl
  case sweep =>
    intro u sp sh swept f w
    exact ⟨SoundUnit.clockSweep_wait, SoundUnit.clockSweep_rest, SoundUnit.clockSweep_overflow, SoundUnit.clockSweep_commit⟩
  case periods =>
    intro u freq
    refine ⟨?_, ?_, ?_, ?_, rfl, rfl, rfl, rfl⟩
    · rw [SoundUnit.period_c1, SoundUnit.freq_eq]
    · rw [SoundUnit.period_c2, SoundUnit.freq_eq]
    · rw [SoundUnit.period_c3, SoundUnit.freq_eq]
    · rw [SoundUnit.period_c4, SoundUnit.noisePeriod_eq _ (Nat.mod_lt _ (by decide))]
  case timers =>
    intro u x a b ch
    refine ⟨fun h => ?_, fun h h' => ?_, fun _ => u.clockTimer_add x a b⟩
    · rw [SoundUnit.clockTimer, countDown_stop h]
      rfl
    · rw [SoundUnit.clockTimer, countDown_of_lt h h']
      rfl
  case outputs =>
    intro u duty pair nibble
    refine ⟨?_, ?_, ?_, ?_⟩
    · rw [SoundUnit.outOf_eq u u.dacOn_c1, SoundUnit.generator, SoundUnit.dutyPattern_eq]
      rfl
    · rw [SoundUnit.outOf_eq u u.dacOn_c2, SoundUnit.generator, SoundUnit.dutyPattern_eq]
      rfl
    · rw [SoundUnit.outOf_eq u u.dacOn_c3, SoundUnit.generator, SoundUnit.waveSample_eq, SoundUnit.levelShift_eq,
        Nat.shiftRight_eq_div_pow]
      rfl
    · rw [SoundUnit.outOf_eq u u.dacOn_c4, SoundUnit.generator, u.noiseBit]
      rfl
  case mixer =>
    intro u cfg ear
    refine ⟨fun hp => SoundUnit.mix_off hp cfg, fun hp hdefault => ?_⟩
    rw [SoundUnit.mix_on hp, mixOf_default hdefault, defaultMix, earVolume, earVolume, u.volL_toNat, u.volR_toNat]
    rfl
  case samples =>
    intro u cfg c d hpos
    obtain ⟨hacc, hlen⟩ := u.step_samples cfg c
    obtain ⟨-, hlen'⟩ := (u.step cfg c).1.step_samples cfg d
    have hadd := congrArg Prod.snd (countUp_add cfg.cpuHz u.sampleAcc (c * cfg.sampleRate) (d * cfg.sampleRate) hpos)
    rw [hlen', hlen, hacc, Nat.add_mul]
    exact hadd.symm

end Sys2Proof.Proofs
end

section
/-! The ranges of the sound state (R462 to R466), kept by every register write and every clock. -/

namespace Sys2Proof.Machine

/-- The ranges of an envelope (R465). -/
def Envelope.InRange (e : Envelope) : Prop := e.volume ≤ 15 ∧ e.envTimer ≤ 7

/-- The ranges of the sound state, for a CPU_HZ and a position of the master switch. -/
structure SoundUnit.InRange (hz : Nat) (on : Bool) (u : SoundUnit) : Prop where
  power : u.power = on
  fsAcc : u.fsAcc < 8192
  fsStep : u.fsStep < 8
  sampleAcc : u.sampleAcc < hz
  length : ∀ x, (u.channel x).length ≤ x.fullLength
  env1 : u.env1.InRange
  env2 : u.env2.InRange
  env4 : u.env4.InRange
  dutyStep1 : u.dutyStep1 < 8
  dutyStep2 : u.dutyStep2 < 8
  sampleIndex : u.sampleIndex < 32
  shadow : u.shadow ≤ 2047
  sweepTimer : u.sweepTimer ≤ 8

/-- With the power off every register is 0 and every channel is disabled (R469, R530). -/
def SoundUnit.Cleared (u : SoundUnit) : Prop :=
  u.nr = Vector.replicate 22 0 ∧ u.ch1.enabled = false ∧ u.ch2.enabled = false ∧ u.ch3.enabled = false ∧ u.ch4.enabled = false

theorem SoundUnit.inv_iff {u : SoundUnit} {c : Config} :
    u.Inv c ↔ u.InRange c.cpuHz u.power ∧ (u.power = false → u.Cleared) := by
  constructor
  · rintro ⟨⟨h1, h2, h3⟩, ⟨l1, l2, l3, l4⟩, ⟨v1, v2, v4⟩, ⟨t1, t2, t4⟩, ⟨d1, d2, d3⟩, ⟨w1, w2⟩, hoff⟩
    refine ⟨⟨rfl, h1, h2, h3, fun x => ?_, ⟨v1, t1⟩, ⟨v2, t2⟩, ⟨v4, t4⟩, d1, d2, d3, w1, w2⟩, hoff⟩
    cases x
    exacts [l1, l2, l3, l4]
  · rintro ⟨h, hoff⟩
    exact ⟨⟨h.fsAcc, h.fsStep, h.sampleAcc⟩, ⟨h.length .c1, h.length .c2, h.length .c3, h.length .c4⟩,
      ⟨h.env1.1, h.env2.1, h.env4.1⟩, ⟨h.env1.2, h.env2.2, h.env4.2⟩, ⟨h.dutyStep1, h.dutyStep2, h.sampleIndex⟩,
      ⟨h.shadow, h.sweepTimer⟩, hoff⟩

theorem Envelope.inRange_start (r : Byte) : (Envelope.start r).InRange := by
  rw [start_eq]
  exact ⟨by dsimp only; omega, by dsimp only; omega⟩

theorem Envelope.inRange_clocked {e : Envelope} (h : e.InRange) (r : Byte) : (Claims.envelopeClocked r e).InRange := by
  obtain ⟨hvolume, htimer⟩ := h
  have hperiod : r.toNat % 8 ≤ 7 := by omega
  unfold Claims.envelopeClocked
  dsimp only
  split_ifs
  · exact ⟨hvolume, htimer⟩
  · exact ⟨hvolume, by dsimp only; omega⟩
  · exact ⟨by dsimp only; omega, hperiod⟩
  · exact ⟨hvolume, hperiod⟩
  · exact ⟨by dsimp only; omega, hperiod⟩

theorem sweepPeriod_le (nr10 : Byte) : (if sweepPeriod nr10 = 0 then 8 else sweepPeriod nr10) ≤ 8 := by
  have hlt : sweepPeriod nr10 < 8 := Nat.mod_lt _ (by decide)
  split <;> omega

theorem SoundUnit.channel_setChannel_eq (u : SoundUnit) (x y : ChannelId) (c : Channel) :
    (u.setChannel x c).channel y = if y = x then c else u.channel y := by
  cases x <;> cases y <;> rfl

namespace SoundUnit.InRange

variable {hz : Nat} {on : Bool} {u : SoundUnit} (h : u.InRange hz on)

include h

theorem setChannel (x : ChannelId) {c : Channel} (hc : c.length ≤ x.fullLength) : (u.setChannel x c).InRange hz on := by
  have hlength (y : ChannelId) : ((u.setChannel x c).channel y).length ≤ y.fullLength := by
    rw [channel_setChannel_eq]
    split
    · rename_i hy
      exact hy ▸ hc
    · exact h.length y
  cases x <;> exact { h with length := hlength }

theorem setReg (a : Nat) (v : Byte) : (u.setReg a v).InRange hz on := by
  obtain ⟨n, hn⟩ := u.setReg_form a v
  rw [hn]
  exact { h with }

theorem dacWrite (x : ChannelId) : (u.dacWrite x).InRange hz on := by
  rw [dacWrite_eq]
  exact h.setChannel x (h.length x)

theorem length_triggered (x : ChannelId) (enabled : Bool) : (u.triggered x enabled).length ≤ x.fullLength := by
  unfold triggered
  dsimp only
  split
  · exact le_rfl
  · exact h.length x

theorem trigger (x : ChannelId) : (u.trigger x).InRange hz on := by
  cases x with
  | c1 =>
    rw [trigger_c1]
    have hfreq := u.freq_lt 0xFF13
    exact { h.setChannel .c1 (h.length_triggered .c1 _) with
      env1 := Envelope.inRange_start _
      shadow := by dsimp only; omega
      sweepTimer := by dsimp only; rw [sweepReload_eq]; exact sweepPeriod_le _ }
  | c2 =>
    rw [trigger_c2]
    exact { h.setChannel .c2 (h.length_triggered .c2 _) with env2 := Envelope.inRange_start _ }
  | c3 =>
    rw [trigger_c3]
    exact { h.setChannel .c3 (h.length_triggered .c3 _) with sampleIndex := Nat.zero_lt_succ 31 }
  | c4 =>
    rw [trigger_c4]
    exact { h.setChannel .c4 (h.length_triggered .c4 _) with env4 := Envelope.inRange_start _ }

theorem clockLengthOf (x : ChannelId) : (u.clockLengthOf x).InRange hz on := by
  rw [clockLengthOf_eq]
  refine h.setChannel x ?_
  have hlength := h.length x
  unfold Claims.lengthClocked
  split
  · dsimp only
    omega
  · exact hlength

theorem clockEnvelope : u.clockEnvelope.InRange hz on := by
  rw [clockEnvelope_eq]
  exact { h with
    env1 := Envelope.inRange_clocked h.env1 _
    env2 := Envelope.inRange_clocked h.env2 _
    env4 := Envelope.inRange_clocked h.env4 _ }

theorem sweepReloaded : u.sweepReloaded.InRange hz on := { h with sweepTimer := sweepPeriod_le _ }

theorem clockSweep : u.clockSweep.InRange hz on := by
  have htimer := h.sweepTimer
  obtain ⟨-, hw⟩ | hw | hw | ⟨hle, hw⟩ := u.clockSweep_cases
  · rw [hw]
    exact { h with sweepTimer := by dsimp only; omega }
  · rw [hw]
    exact h.sweepReloaded
  · rw [hw]
    exact h.sweepReloaded.setChannel .c1 (h.length .c1)
  · obtain ⟨n, e, hn⟩ := u.sweepCommitted_form (sweptFreq (u.reg 0xFF10) u.shadow)
    rw [hw, hn]
    exact { h.sweepReloaded.setChannel .c1 (c := { u.ch1 with enabled := u.ch1.enabled && e }) (h.length .c1) with shadow := hle }

theorem advance (x : ChannelId) : (u.advance x).InRange hz on := by
  cases x with
  | c1 => exact { h with dutyStep1 := Nat.mod_lt _ (by decide) }
  | c2 => exact { h with dutyStep2 := Nat.mod_lt _ (by decide) }
  | c3 => exact { h with sampleIndex := Nat.mod_lt _ (by decide) }
  | c4 => exact { h with }

theorem clockAll (c : Nat) : (u.clockAll c).InRange hz on :=
  clockAll_keeps (P := InRange hz on) (fun _ _ hn h => { h with fsAcc := hn }) (fun _ _ hn h => { h with fsStep := hn })
    (fun _ x h => h.clockLengthOf x) (fun _ h => h.clockSweep) (fun _ h => h.clockEnvelope)
    (fun _ x _ h => h.setChannel x (h.length x)) (fun _ x h => h.advance x) h c

theorem writeEffect (a : Nat) (v : Byte) : (u.writeEffect a v).InRange hz on :=
  writeEffect_keeps (P := InRange hz on) h a v (fun x _ hn => h.setChannel x hn) h.dacWrite h.trigger

/-- The master switch off (R530). -/
theorem powerOff : u.powerOff.InRange hz false where
  power := rfl
  fsAcc := h.fsAcc
  fsStep := h.fsStep
  sampleAcc := h.sampleAcc
  length x := by cases x <;> exact Nat.zero_le _
  env1 := ⟨Nat.zero_le _, Nat.zero_le _⟩
  env2 := ⟨Nat.zero_le _, Nat.zero_le _⟩
  env4 := ⟨Nat.zero_le _, Nat.zero_le _⟩
  dutyStep1 := Nat.zero_lt_succ _
  dutyStep2 := Nat.zero_lt_succ _
  sampleIndex := Nat.zero_lt_succ _
  shadow := Nat.zero_le _
  sweepTimer := Nat.zero_le _

end SoundUnit.InRange

/-- A unit that is on is in range if its fields are. -/
theorem SoundUnit.InRange.inv {u : SoundUnit} {c : Config} (h : u.InRange c.cpuHz true) : u.Inv c :=
  inv_iff.2 ⟨h.power ▸ h, fun hoff => absurd (h.power.symm.trans hoff) Bool.noConfusion⟩

theorem SoundUnit.inv_writeNR52 {u : SoundUnit} {c : Config} (h : u.Inv c) (v : Byte) : (u.writeNR52 v).Inv c := by
  obtain ⟨hrange, -⟩ := inv_iff.1 h
  unfold writeNR52
  split_ifs
  · exact h
  · exact InRange.inv { hrange with
      power := rfl
      fsAcc := Nat.zero_lt_succ _
      fsStep := Nat.zero_lt_succ _ }
  · exact inv_iff.2 ⟨hrange.powerOff, fun _ => ⟨rfl, rfl, rfl, rfl, rfl⟩⟩
  · exact h

theorem SoundUnit.inv_withWave {u : SoundUnit} {c : Config} (h : u.Inv c) (w : Vector Byte 16) :
    ({ u with wave := w } : SoundUnit).Inv c := h

theorem SoundUnit.inv_write {u : SoundUnit} {c : Config} (h : u.Inv c) (a : Nat) (v : Byte) : (u.write a v).Inv c := by
  obtain ⟨hrange, -⟩ := inv_iff.1 h
  unfold write
  split_ifs with hwave hswitch hunused hon
  · exact inv_withWave h _
  · exact inv_writeNR52 h v
  · exact h
  · have hrange' : u.InRange c.cpuHz true := { hrange with power := hon }
    exact ((hrange'.setReg a v).writeEffect a v).inv
  · exact h

/-- A step of the unit leaves the sample clock below CPU_HZ, and runs the other clocks only with the power on (R461). -/
theorem SoundUnit.inv_step {u : SoundUnit} {c : Config} (hpos : 0 < c.cpuHz) (h : u.Inv c) (n : Nat) : (u.step c n).1.Inv c := by
  obtain ⟨hrange, hoff⟩ := inv_iff.1 h
  have hclock {w : SoundUnit} {on : Bool} (hw : w.InRange c.cpuHz on) : (w.generateSamples c n).1.InRange c.cpuHz on :=
    { hw with sampleAcc := Nat.mod_lt _ hpos }
  unfold step
  split
  · rename_i hon
    have hrange' : u.InRange c.cpuHz true := { hrange with power := hon }
    exact (hclock (hrange'.clockAll n)).inv
  · exact inv_iff.2 ⟨hclock hrange, hoff⟩

/-- The sound state in range, for a configuration that stays the same. -/
def soundInv (c : Config) (s : State) : Prop := s.snd.Inv c ∧ s.cfg = c

theorem soundInv_stable (c : Config) : Stable (soundInv c) where
  cpu _ _ h := h
  cycles _ _ h := h
  write s a v h := by
    rcases memWrite_cases s a v with ⟨_, e⟩ | ⟨_, _, _, e⟩ | ⟨_, _, _, e⟩ | e | e | e | ⟨_, _, _, e⟩ | e | e <;> rw [e]
    · exact h
    · exact h
    · exact h
    · exact h
    · exact h
    · obtain ⟨m, hm⟩ := dmaCopy_eq (s.setMem 0xFF46 v) v
      rw [hm]
      exact h
    · exact ⟨SoundUnit.inv_write h.1 _ v, h.2⟩
    · exact h
    · exact h

theorem soundInv_advanceEngines {c : Config} (hpos : 0 < c.cpuHz) {s : State} (h : soundInv c s) (n : Nat) :
    soundInv c (advanceEngines n s) := by
  obtain ⟨hinv, hcfg⟩ : soundInv c (pixelStep n (advanceTimers n s)) :=
    pixelStep_keeps (fun _ _ _ _ h => h) (fun _ _ h => h) (fun _ _ h => h)
      (advanceTimers_keeps (P := soundInv c) (fun _ _ _ _ h => h) (fun _ _ h => h) h n) n
  refine ⟨?_, hcfg⟩
  rw [advanceEngines, soundStep, hcfg]
  exact SoundUnit.inv_step hpos hinv n

end Sys2Proof.Machine

namespace Sys2Proof.Proofs

open Sys2Proof.Machine

/-- Settles O52: every register write and every clock keeps the ranges; only the master switch clears, and it clears all. -/
theorem soundStaysInRange : Obligations.SoundStaysInRange := by
  intro s t hpos hinv ht
  obtain ⟨u, hu, rfl⟩ := step_next ht
  have hstep : soundInv s.cfg u := executeStep_keeps (soundInv_stable s.cfg) (fun _ _ h => h) ⟨hinv, rfl⟩ u hu
  obtain ⟨h, hcfg⟩ := soundInv_advanceEngines hpos hstep u.out.cycles
  rwa [hcfg]

end Sys2Proof.Proofs
end

section
/-! The stores built from lists of bytes (R61, R92, R94): what each address reads. -/

namespace Sys2Proof.Machine

open Sys2Proof.Claims

variable {dflt : Nat → Byte} {size : Nat}

/-- The image read at an offset, 0 beyond its end. -/
theorem read_zipIdx (bytes : List Byte) (n k : Nat) :
    Cells.read initZero (((bytes.zipIdx n).filter (fun p => p.1 ≠ 0)).map (fun p => (p.2, p.1))) k =
      if k < n then 0 else bytes.getD (k - n) 0 := by
  induction bytes generalizing n with
  | nil => simp [initZero]
  | cons b bytes ih =>
    have hrest : (if k < n + 1 then (0 : Byte) else bytes.getD (k - (n + 1)) 0) =
        if k < n then 0 else if n = k then 0 else (b :: bytes).getD (k - n) 0 := by
      by_cases h : k < n + 1
      · rw [if_pos h]
        by_cases hlt : k < n
        · rw [if_pos hlt]
        · rw [if_neg hlt, if_pos (by omega)]
      · rw [if_neg h, if_neg (by omega), if_neg (by omega), show k - n = k - (n + 1) + 1 by omega]
        rfl
    rw [List.zipIdx_cons, List.filter_cons]
    by_cases hb : b = 0
    · rw [if_neg (by simpa using hb), ih, hrest, hb]
      split_ifs with h1 h2
      · rfl
      · rw [h2, Nat.sub_self]
        rfl
      · rfl
    · rw [if_pos (by simpa using hb), List.map_cons, Cells.read_cons, ih, hrest]
      by_cases h : n = k
      · rw [if_pos h, if_neg (by omega), h, Nat.sub_self]
        rfl
      · rw [if_neg h, if_neg h]

theorem read_imageCells (bytes : List Byte) (k : Nat) : Cells.read initZero (imageCells bytes) k = bytes.getD k 0 :=
  read_zipIdx bytes 0 k

/-- Bytes written in order: the last one to an address stands. -/
theorem read_foldl_write (l : List (Nat × Byte)) (hl : ∀ p ∈ l, p.1 < size) {m : Memory} (hm : Cells.Wf dflt size m) (a : Nat) :
    Cells.read dflt (l.foldl (fun m p => Cells.write dflt m p.1 p.2) m) a =
      ((l.reverse.find? (fun p => p.1 == a)).map (·.2)).getD (Cells.read dflt m a) := by
  induction l generalizing m with
  | nil => rfl
  | cons q l ih =>
    rw [List.foldl_cons, ih (fun p hp => hl p (by simp [hp])) (Cells.wf_write hm (hl q (by simp)) q.2),
      Cells.read_write _ _ _ _ hm.1, List.reverse_cons, List.find?_append]
    cases l.reverse.find? (fun p => p.1 == a) with
    | some p => rfl
    | none =>
      by_cases h : q.1 = a
      · simp [h]
      · simp [h]

/-- Bytes outside a store do not change what it reads inside. -/
theorem find?_reverse_filter_lt (l : List (Nat × Byte)) {a : Nat} (ha : a < size) :
    (l.filter (fun p => p.1 < size)).reverse.find? (fun p => p.1 == a) = l.reverse.find? (fun p => p.1 == a) := by
  rw [← List.filter_reverse, List.find?_filter]
  refine congrArg (fun f => l.reverse.find? f) (funext fun p => ?_)
  by_cases h : p.1 = a
  · simp [h, ha]
  · simp [h]

/-- A store built from listed bytes reads the listed byte, or as unlisted (R61, R92). -/
theorem read_ofList_filter (l : List (Nat × Byte)) {a : Nat} (ha : a < size) :
    Cells.read dflt (Cells.ofList dflt (l.filter (fun p => p.1 < size))) a =
      ((l.reverse.find? (fun p => p.1 == a)).map (·.2)).getD (dflt a) := by
  rw [← find?_reverse_filter_lt l ha]
  exact read_foldl_write (size := size) _ (fun p hp => by simpa using (List.mem_filter.1 hp).2)
    (by simp [Cells.Wf]) a

/-- The raw byte array after reset (R61, R561). -/
theorem read_reset (bytes : List (Nat × Byte)) {a : Nat} (ha : a < 0x10000) : (Memory.reset bytes).read a =
    if a = 0xFF41 then 0x02 else if a = 0xFF44 ∨ a = 0xFF04 then 0x00 else listed bytes a := by
  have h : Memory.wf (Cells.ofList initMem (bytes.filter (fun p => p.1 < 0x10000))) :=
    Cells.wf_ofList _ (fun p hp => by simpa using (List.mem_filter.1 hp).2)
  have h1 := Memory.wf_write h (show 0xFF41 < 0x10000 by decide) 0x02
  have h2 := Memory.wf_write h1 (show 0xFF44 < 0x10000 by decide) 0x00
  rw [Memory.reset, Memory.read_write h2, Memory.read_write h1, Memory.read_write h]
  by_cases h41 : a = 0xFF41
  · rw [if_neg (by omega), if_neg (by omega), if_pos h41.symm, if_pos h41]
  · have hread := read_ofList_filter (dflt := initMem) bytes ha
    rw [initMem, if_neg h41] at hread
    rw [if_neg h41, if_neg (Ne.symm h41)]
    by_cases h4 : a = 0xFF04
    · rw [if_pos h4.symm, if_pos (.inr h4)]
    · by_cases h44 : a = 0xFF44
      · rw [if_neg (Ne.symm h4), if_pos h44.symm, if_pos (.inl h44)]
      · rw [if_neg (Ne.symm h4), if_neg (Ne.symm h44), if_neg (by omega)]
        exact hread

theorem wf_resetXram (size : Nat) (bytes : List (Nat × Byte)) : Cells.Wf initZero size (Memory.resetXram size bytes) :=
  Cells.wf_ofList _ fun p hp => by simpa using (List.mem_filter.1 hp).2

theorem read_resetXram (bytes : List (Nat × Byte)) {k : Nat} (hk : k < size) :
    Cells.read initZero (Memory.resetXram size bytes) k = listed bytes k := read_ofList_filter bytes hk

end Sys2Proof.Machine
end

section
/-! The reset state, loading an image, and snapshots (R561, R584). -/

namespace Sys2Proof.Machine

/-- The kinds of R91. -/
def supportedKind (kind : Nat) : Prop :=
  kind = 0 ∨ 1 ≤ kind ∧ kind ≤ 3 ∨ 0x0F ≤ kind ∧ kind ≤ 0x13 ∨ 0x19 ≤ kind ∧ kind ≤ 0x1E

theorem BankController.ofHeader_supported {kind : Byte} (h : supportedKind kind.toNat) : BankController.ofHeader kind =
    some (if kind.toNat = 0 then .flat else if kind.toNat ≤ 3 then .mbc1 false 1 0 false
      else if kind.toNat ≤ 0x13 then .mbc3 false 1 0 else .mbc5 false 1 0) := by
  unfold ofHeader
  dsimp only
  obtain h | h | h | h := h
  · rw [if_pos h, if_pos h]
  · rw [if_neg (by omega), if_pos h, if_neg (by omega), if_pos h.2]
  · rw [if_neg (by omega), if_neg (by omega), if_pos h, if_neg (by omega), if_neg (by omega), if_pos h.2]
  · rw [if_neg (by omega), if_neg (by omega), if_neg (by omega), if_pos h, if_neg (by omega), if_neg (by omega),
      if_neg (by omega)]

theorem BankController.ofHeader_unsupported {kind : Byte} (h : ¬ supportedKind kind.toNat) :
    BankController.ofHeader kind = none := by
  unfold supportedKind at h
  unfold ofHeader
  dsimp only
  rw [if_neg (by omega), if_neg (by omega), if_neg (by omega), if_neg (by omega)]

theorem xramSizeOfHeader_eq (code : Byte) :
    xramSizeOfHeader code = [0, 2048, 8192, 32768, 131072, 65536].getD code.toNat 0 := by
  revert code
  decide

/-- The port that an accepted image gives. -/
def imageCartridge (bytes : List Byte) (ctl : BankController) : Cartridge where
  rom := imageCells bytes
  romSize := bytes.length
  ctl := ctl
  xramSize := xramSizeOfHeader (bytes.getD 0x0149 0)
  xram := []

theorem load_short {c : Config} {bytes : List Byte} (h : bytes.length < 0x014A) :
    load c bytes = .error (.imageTooShort bytes.length) := by
  rw [load, Cartridge.ofImage, if_pos h]
  rfl

theorem load_unsupported {c : Config} {bytes : List Byte} (h : 0x014A ≤ bytes.length)
    (hkind : BankController.ofHeader (bytes.getD 0x0147 0) = none) :
    load c bytes = .error (.unsupportedKind (bytes.getD 0x0147 0)) := by
  rw [load, Cartridge.ofImage, if_neg (by omega), read_imageCells, hkind]
  rfl

theorem load_ok {c : Config} {bytes : List Byte} {ctl : BankController} (h : 0x014A ≤ bytes.length)
    (hkind : BankController.ofHeader (bytes.getD 0x0147 0) = some ctl) :
    load c bytes = .ok (State.resetWith c (imageCartridge bytes ctl)) := by
  rw [load, Cartridge.ofImage, if_neg (by omega), read_imageCells, hkind, read_imageCells]
  rfl

theorem State.acceptable_iff (s : State) : s.acceptable = true ↔ s.Inv := by
  simp only [acceptable, Bool.and_eq_true, decide_eq_true_iff]
  exact ⟨fun ⟨⟨⟨⟨⟨⟨hcpu, hmem⟩, htimer⟩, hppu⟩, hsnd⟩, hcart⟩, hcfg⟩ => ⟨hcpu, hmem, htimer, hppu, hsnd, hcart, hcfg⟩,
    fun ⟨hcpu, hmem, htimer, hppu, hsnd, hcart, hcfg⟩ => ⟨⟨⟨⟨⟨⟨hcpu, hmem⟩, htimer⟩, hppu⟩, hsnd⟩, hcart⟩, hcfg⟩⟩

theorem SoundUnit.inv_reset {c : Config} (hpos : 0 < c.cpuHz) : SoundUnit.reset.Inv c := by
  have hrange : SoundUnit.reset.InRange c.cpuHz false :=
    { power := rfl
      fsAcc := by decide
      fsStep := by decide
      sampleAcc := hpos
      length := fun x => by cases x <;> exact Nat.zero_le _
      env1 := ⟨by decide, by decide⟩
      env2 := ⟨by decide, by decide⟩
      env4 := ⟨by decide, by decide⟩
      dutyStep1 := by decide
      dutyStep2 := by decide
      sampleIndex := by decide
      shadow := by decide
      sweepTimer := by decide }
  exact inv_iff.2 ⟨hrange, fun _ => ⟨rfl, rfl, rfl, rfl, rfl⟩⟩

/-- The PixelUnit after reset, by the registers that reset forces (R561). -/
theorem pixelInv_resetWith (c : Config) (cart : Cartridge) : pixelInv (State.resetWith c cart) := by
  have hstat : (State.resetWith c cart).mem.read 0xFF41 = 0x02 := read_reset c.initMemBytes (by decide)
  have hly : (State.resetWith c cart).mem.read 0xFF44 = 0x00 := read_reset c.initMemBytes (by decide)
  unfold pixelInv
  rw [hstat, hly]
  refine ⟨(by decide : 0 < Mode.oamSearch.budget), rfl, (by decide : lineOk .oamSearch 0), fun n _ => ?_, ?_⟩
  · exact Vector.getElem_replicate ..
  · exact ⟨List.Pairwise.nil, nofun⟩

theorem resetWith_inv {c : Config} {cart : Cartridge} (hc : c.Valid) (hcart : cart.Inv) : (State.resetWith c cart).Inv := by
  obtain ⟨hpos, hf⟩ := hc
  obtain ⟨hctl, hsize, hrom, -⟩ := hcart
  exact ⟨hf, Memory.wf_reset _, ⟨Nat.zero_lt_succ _, Nat.zero_lt_succ _⟩, pixelInv_resetWith c cart, SoundUnit.inv_reset hpos,
    ⟨hctl, hsize, hrom, wf_resetXram _ _⟩, hpos, hf⟩

end Sys2Proof.Machine

namespace Sys2Proof.Proofs

open Sys2Proof.Machine

/-- Settles O59: a state that meets the invariant is acceptable, and what is restored is the snapshot with the parts that are
not restored. -/
theorem restoreOfExtract : Obligations.RestoreOfExtract := by
  refine ⟨fun s hs => ?_, fun snap s t h => ?_, fun snap s hf => ?_⟩
  · exact if_pos ⟨(State.acceptable_iff s).2 hs, rfl⟩
  · unfold restore at h
    dsimp only at h
    split at h
    · cases h
      exact ⟨rfl, rfl, rfl, rfl, rfl, rfl, rfl⟩
    · cases h
  · refine if_neg fun ⟨haccepted, _⟩ => ?_
    obtain ⟨hcpu, -⟩ := (State.acceptable_iff _).1 haccepted
    exact hf hcpu

/-- Settles O60: the image accepted or refused by its header, and the reset state field by field. -/
theorem loadAndReset : Obligations.LoadAndReset := by
  intro c bytes kind supported
  refine ⟨load_short, fun hlen hkind => load_unsupported hlen (BankController.ofHeader_unsupported hkind),
    fun hlen hkind => ⟨_, load_ok hlen (BankController.ofHeader_supported hkind), rfl, fun a => read_reset c.initMemBytes, rfl, rfl,
      rfl, rfl, rfl, fun k hk => ?_, fun k hk => ?_, rfl, xramSizeOfHeader_eq _, fun k hk => read_resetXram c.initXramBytes hk⟩⟩
  · exact (if_pos hk).trans (read_imageCells bytes k)
  · exact if_neg (Nat.not_lt.2 hk)

/-- Settles O47: reset forces the registers that the invariant relates, and every other field has its least value. -/
theorem resetMeetsInvariant : Obligations.ResetMeetsInvariant :=
  ⟨fun _ _ => resetWith_inv, resetWith_inv (by decide) (by decide)⟩

end Sys2Proof.Proofs
end
